-- ==== Sys2Proof/Word.lean ====
section
/-! DEFINITION. The block's bit patterns (00_scope.md R6, R7): bytes, 16-bit calibration words, 32-bit result
registers and the 17-bit transaction word. Bit 0 is the least significant bit. -/

namespace Sys2Proof

/-- One byte of the host port: `addr`, `wdata`, `rdata` (20_memory.md R60; W_ADDR = W_DATA = 8). -/
abbrev Byte := BitVec 8

/-- A 16-bit calibration word (10_state.md R35; W_CAL = 16). -/
abbrev Half := BitVec 16

/-- A 32-bit result register (R39 to R41; W_TFINE = W_TEMP = W_PRESS = 32). -/
abbrev Word := BitVec 32

/-- A transaction word `{W, A, D}` (30_encoding.md R90). -/
abbrev TW := BitVec 17

end Sys2Proof
end

