-- ==== Sys2Proof/Syntax.lean ====
section
/-! DEFINITION. The fourteen instructions, one constructor per row of opcode_table.json: the host-port transactions
(30_encoding.md R90, R93). An address that selects a register of a file is that register's index; an address whose
only role is its class stays a byte. -/

namespace Sys2Proof

/-- A host-port transaction (30_encoding.md R93). -/
inductive Instr where
  /-- RD: read one byte of the window (40_host_access.md R121). -/
  | rd (a : Byte)
  /-- NOP (41_control_commands.md R150). -/
  | nop
  /-- COMP_T: the temperature stage (42_compensation.md R180). -/
  | compT
  /-- COMP_P: the pressure stage from the held T_FINE (R181). -/
  | compP
  /-- COMP_TP: temperature, then pressure (R183). -/
  | compTp
  /-- CAL_COMMIT (41_control_commands.md R151). -/
  | calCommit
  /-- CAL_CLEAR (R152). -/
  | calClear
  /-- CLR_ERR (R153). -/
  | clrErr
  /-- CMD_RSV: a reserved command code `d` (R154). -/
  | cmdRsv (d : Byte)
  /-- WR_RO: a write of `d` to the read-only address `a` (40_host_access.md R125). -/
  | wrRo (a d : Byte)
  /-- WR_CAL: a write of `d` to `0x88 + i`, which is CAL_BYTE[i] (R122). -/
  | wrCal (i : Fin 24) (d : Byte)
  /-- WR_RAWP: a write of `d` to `0xF7 + j`, which is RAW_P[j] (R123). -/
  | wrRawp (j : Fin 3) (d : Byte)
  /-- WR_RAWT: a write of `d` to `0xFA + j`, which is RAW_T[j] (R124). -/
  | wrRawt (j : Fin 3) (d : Byte)
  /-- WR_RSV: a write of `d` to the reserved address `a` (R126). -/
  | wrRsv (a d : Byte)
deriving DecidableEq, Repr

/-- W = 1: every instruction but RD is a write transaction (30_encoding.md R92, R93). -/
def Instr.isWrite : Instr → Bool
  | .rd _ => false
  | .nop => true
  | .compT => true
  | .compP => true
  | .compTp => true
  | .calCommit => true
  | .calClear => true
  | .clrErr => true
  | .cmdRsv _ => true
  | .wrRo _ _ => true
  | .wrCal _ _ => true
  | .wrRawp _ _ => true
  | .wrRawt _ _ => true
  | .wrRsv _ _ => true

end Sys2Proof
end

