-- ==== Sys2Proof/WellFormed.lean ====
section
/-! DEFINITION. Which terms of `Instr` are instructions: the address and code sets of 30_encoding.md R94 and R97.
The indices of WR_CAL, WR_RAWP and WR_RAWT are in range by their types. -/

namespace Sys2Proof

/-- The RO class: 0x01, 0x02, 0x04-0x12 (30_encoding.md R94). -/
def isRoAddr (a : Byte) : Bool :=
  a.toNat == 0x01 || a.toNat == 0x02 || (0x04 ≤ a.toNat && a.toNat ≤ 0x12)

/-- The RSV class: 0x03, 0x13-0x87, 0xA0-0xF6, 0xFD-0xFF (R94). -/
def isRsvAddr (a : Byte) : Bool :=
  a.toNat == 0x03 || (0x13 ≤ a.toNat && a.toNat ≤ 0x87) || (0xA0 ≤ a.toNat && a.toNat ≤ 0xF6)
    || (0xFD ≤ a.toNat && a.toNat ≤ 0xFF)

/-- The reserved command codes: 0x04-0x0F, 0x12-0x1F, 0x21-0xFF (R97). -/
def isRsvCode (d : Byte) : Bool :=
  (0x04 ≤ d.toNat && d.toNat ≤ 0x0F) || (0x12 ≤ d.toNat && d.toNat ≤ 0x1F)
    || (0x21 ≤ d.toNat && d.toNat ≤ 0xFF)

/-- Each operand lies in the set its row of opcode_table.json gives it. -/
def Instr.wf : Instr → Bool
  | .rd _ => true
  | .nop => true
  | .compT => true
  | .compP => true
  | .compTp => true
  | .calCommit => true
  | .calClear => true
  | .clrErr => true
  | .cmdRsv d => isRsvCode d
  | .wrRo a _ => isRoAddr a
  | .wrCal _ _ => true
  | .wrRawp _ _ => true
  | .wrRawt _ _ => true
  | .wrRsv a _ => isRsvAddr a

end Sys2Proof
end

