-- ==== Sys2Proof/Decode.lean ====
section
/-! DEFINITION. Decoding a transaction word (30_encoding.md R90 to R98) and, after it, the encoder. `decodeTW` is the
spec's decode, total on the 2^17 words and independent of state; `decodeWord` reads a number and rejects, by name, one
that is no 17-bit word (log entry 8). -/

namespace Sys2Proof

/-- TW[16], the `we` port (R90). -/
def twW (w : TW) : BitVec 1 := w.extractLsb' 16 1

/-- TW[15:8], the `addr` port (R90). -/
def twA (w : TW) : Byte := w.extractLsb' 8 8

/-- TW[7:0], the `wdata` port (R90). -/
def twD (w : TW) : Byte := w.extractLsb' 0 8

/-- `{W, A, D}` (R90, R7). -/
def mkTW (w : BitVec 1) (a d : Byte) : TW := (w ++ a ++ d : BitVec (1 + 8 + 8))

/-- The command byte, compared whole (R93, R95, R96; the dispatch of 40_host_access.md R127). -/
def decodeCommand (d : Byte) : Instr :=
  if d = 0x00#8 then .nop
  else if d = 0x01#8 then .compT
  else if d = 0x02#8 then .compP
  else if d = 0x03#8 then .compTp
  else if d = 0x10#8 then .calCommit
  else if d = 0x11#8 then .calClear
  else if d = 0x20#8 then .clrErr
  else .cmdRsv d

/-- A write word, by its address class in R93's order. -/
def decodeWrite (a d : Byte) : Instr :=
  if a = 0x00#8 then decodeCommand d
  else if a = 0x01#8 ∨ a = 0x02#8 ∨ (0x04 ≤ a.toNat ∧ a.toNat ≤ 0x12) then .wrRo a d
  else if h : 0x88 ≤ a.toNat ∧ a.toNat ≤ 0x9F then .wrCal ⟨a.toNat - 0x88, by omega⟩ d
  else if h : 0xF7 ≤ a.toNat ∧ a.toNat ≤ 0xF9 then .wrRawp ⟨a.toNat - 0xF7, by omega⟩ d
  else if h : 0xFA ≤ a.toNat ∧ a.toNat ≤ 0xFC then .wrRawt ⟨a.toNat - 0xFA, by omega⟩ d
  else .wrRsv a d

/-- R93's `decode(TW)`: a read word is RD whatever A and D are (R92). -/
def decodeTW (w : TW) : Instr :=
  if twW w = 0#1 then .rd (twA w) else decodeWrite (twA w) (twD w)

/-- Why a number is not decoded. -/
inductive DecodeReject where
  /-- The number has a bit above bit 16: every transaction is one 17-bit word (R90). Safe: no such transaction exists. -/
  | widerThanTransactionWord
deriving DecidableEq, Repr

/-- The instruction of a number, or why there is none. -/
def decodeWord (n : Nat) : Except DecodeReject Instr :=
  if n < 0x20000 then .ok (decodeTW (BitVec.ofNat 17 n)) else .error .widerThanTransactionWord

/-- What the host's table check calls. The table gives every row one 17-bit word, numbered as `n` is, so the number
of bits in whole bytes (24) adds nothing: the bits above 16 must be 0. -/
def decodeTableWord (_nbits w : Nat) : Option Instr :=
  match decodeWord w with
  | .ok i => some i
  | .error _ => none

/-- The command codes (R96). -/
def codeNop : Byte := 0x00#8
def codeCompT : Byte := 0x01#8
def codeCompP : Byte := 0x02#8
def codeCompTp : Byte := 0x03#8
def codeCalCommit : Byte := 0x10#8
def codeCalClear : Byte := 0x11#8
def codeClrErr : Byte := 0x20#8

/-- The word of a well-formed instruction, from the "Encoding" line of its rule; a read has D = 0 by convention
(R90, R121). -/
def encode : Instr → TW
  | .rd a => mkTW 0#1 a 0x00#8
  | .nop => mkTW 1#1 0x00#8 codeNop
  | .compT => mkTW 1#1 0x00#8 codeCompT
  | .compP => mkTW 1#1 0x00#8 codeCompP
  | .compTp => mkTW 1#1 0x00#8 codeCompTp
  | .calCommit => mkTW 1#1 0x00#8 codeCalCommit
  | .calClear => mkTW 1#1 0x00#8 codeCalClear
  | .clrErr => mkTW 1#1 0x00#8 codeClrErr
  | .cmdRsv d => mkTW 1#1 0x00#8 d
  | .wrRo a d => mkTW 1#1 a d
  | .wrCal i d => mkTW 1#1 (BitVec.ofNat 8 (0x88 + i.val)) d
  | .wrRawp j d => mkTW 1#1 (BitVec.ofNat 8 (0xF7 + j.val)) d
  | .wrRawt j d => mkTW 1#1 (BitVec.ofNat 8 (0xFA + j.val)) d
  | .wrRsv a d => mkTW 1#1 a d

end Sys2Proof
end

