-- ==== Sys2Proof/Machine/Arith.lean ====
section
/-! DEFINITION. The arithmetic of 00_scope.md R8 and R9: exact integers, floor shifts, truncating division, and the
conversions between bit patterns and integers. -/

namespace Sys2Proof.Machine

/-- `a << n`, that is `a * 2^n`, exact (R8). -/
def shl (a : Int) (n : Nat) : Int := a * ((Nat.pow 2 n : Nat) : Int)

/-- `a >> n`, that is `floor(a / 2^n)`: rounds toward negative infinity (R8). Lean's `/` by a positive integer is the
floor. -/
def asr (a : Int) (n : Nat) : Int := a / ((Nat.pow 2 n : Nat) : Int)

/-- `tdiv(a, b)`, rounded toward zero (R8, 42_compensation.md R173). Only used where `b ≠ 0`. -/
def tdiv (a b : Int) : Int := Int.tdiv a b

/-- `zext_N(v)` (R9). -/
def zext {n : Nat} (v : BitVec n) : Int := (v.toNat : Int)

/-- `sext_N(v)`, two's complement (R9). -/
def sext {n : Nat} (v : BitVec n) : Int := v.toInt

/-- `enc_32(x)`, the pattern of `x mod 2^32` (R9). -/
def enc32 (x : Int) : Word := BitVec.ofInt 32 x

end Sys2Proof.Machine
end

