-- ==== Sys2Proof/Config.lean ====
section
/-! DEFINITION. What an implementation fixes (00_scope.md R6): the two latency parameters, each an integer in
[1, 255], and this spec's defaults. The spec's other parameters are widths, which are the types of `Sys2Proof.Word`,
the exact arithmetic (`Int`, W_INT), the truncating division (DIV_ROUND, log entry 6) and the twelve constants
(N_CAL, the fields of `Machine.Cal`). -/

namespace Sys2Proof.Config

/-- A value of LAT_T or LAT_P, with its range (00_scope.md R6, 70_reset_and_hazards.md R262). -/
structure Latency where
  /-- The latency in clock cycles. -/
  cycles : Nat
  /-- The parameter's range, [1, 255]. -/
  legal : 1 ≤ cycles ∧ cycles ≤ 255
deriving DecidableEq, Repr

/-- R6's default for LAT_T, "cycles of BUSY for COMP_T". DESIGN CHOICE (log entry 4): no statement rests on it. -/
def latTDefault : Latency := ⟨7, by decide⟩

/-- R6's default for LAT_P, "cycles of BUSY for the pressure stage". DESIGN CHOICE (log entry 4). -/
def latPDefault : Latency := ⟨90, by decide⟩

end Sys2Proof.Config
end

