-- ==== Sys2Proof/Machine/State.lean ====
section
/-! DEFINITION. The block's state (10_state.md R20: "exactly the following, and nothing else"), the model's own four
fields beside it, and the state after reset (R47). -/

namespace Sys2Proof.Machine

/-- ERR.CODE: all eight values of the 3-bit field are defined (60_exceptions.md R221). -/
inductive ErrCode where
  /-- 0: no error since the last clear. -/
  | none
  /-- 1: COMP_T, COMP_P or COMP_TP with CAL_VALID = 0. -/
  | notCalibrated
  /-- 2: COMP_P with TF_VALID = 0 and CAL_VALID = 1. -/
  | staleTfine
  /-- 3: a reserved command code. -/
  | badCmd
  /-- 4: CAL_COMMIT with an incomplete mask and CAL_VALID = 0. -/
  | calIncomplete
  /-- 5: a write to 0x88-0x9F with CAL_VALID = 1. -/
  | calLocked
  /-- 6: any write while BUSY = 1. -/
  | busyReject
  /-- 7: a write to a read-only or reserved address. -/
  | badAddr
deriving DecidableEq, Repr

/-- SEQ_OP, the compensation command in flight, or IDLE (10_state.md R22). -/
inductive SeqOp where
  | idle
  | opT
  | opP
  | opTp
deriving DecidableEq, Repr

/-- The input pins at one rising edge (20_memory.md R60). -/
structure Pins where
  /-- Synchronous reset, active high (70_reset_and_hazards.md R250). -/
  rst : Bool
  /-- 1: a host transaction is presented this cycle. -/
  req : Bool
  /-- 1: write, 0: read; ignored when `req = 0`. -/
  we : Bool
  /-- The register-window byte address. -/
  addr : Byte
  /-- Write data; ignored unless `req = 1` and `we = 1`. -/
  wdata : Byte
deriving DecidableEq, Repr

/-- A cycle with nothing presented (R62: an idle cycle). -/
def Pins.idle : Pins := { rst := false, req := false, we := false, addr := 0x00#8, wdata := 0x00#8 }

/-- The state at one moment between two rising edges. -/
structure State where
  /-- CAL_BYTE[0..23] (R34). -/
  calByte : Vector Byte 24
  /-- CAL_MASK: bit `i` is 1 when CAL_BYTE[i] was written since the last reset or CAL_CLEAR (R37). -/
  calMask : BitVec 24
  /-- RAW[0..5]: RAW_P_MSB, RAW_P_LSB, RAW_P_XLSB, RAW_T_MSB, RAW_T_LSB, RAW_T_XLSB (R42). -/
  raw : Vector Byte 6
  /-- T_FINE (R39). -/
  tFine : Word
  /-- TEMP (R40). -/
  temp : Word
  /-- PRESS (R41). -/
  press : Word
  /-- STATUS.CAL_VALID (R26). -/
  calValid : Bool
  /-- STATUS.TF_VALID (R27). -/
  tfValid : Bool
  /-- STATUS.P_VALID (R28). -/
  pValid : Bool
  /-- STATUS.DIVGUARD (R29). -/
  divGuard : Bool
  /-- STATUS.P_SAT (R30). -/
  pSat : Bool
  /-- STATUS.NEGDIV (R31). -/
  negDiv : Bool
  /-- ERR.CODE (R33). -/
  err : ErrCode
  /-- SEQ_OP (R22), hidden from the host. -/
  seqOp : SeqOp
  /-- SEQ_CNT, the cycles left before the commit (R22), hidden from the host. -/
  seqCnt : BitVec 9
  /-- The model's own: the input pins at the coming edges, oldest first (log entry 2). -/
  inputs : List Pins
  /-- The model's own: the byte the `rdata` pin carried during the cycle that ended with the last edge (R60; log entry 3). -/
  rdata : Byte
  /-- The model's own: the parameter LAT_T (R6; log entry 4). -/
  latT : Config.Latency
  /-- The model's own: the parameter LAT_P (R6; log entry 4). -/
  latP : Config.Latency
deriving DecidableEq, Repr

/-- Faults that stop the machine: there is none. The block has no trap (60_exceptions.md R229) and every transaction
is accepted or refused at its edge (70_reset_and_hazards.md R265), so the type is empty (log entry 13). -/
inductive Fault : Type
deriving DecidableEq, Repr

/-- Refusals of the model. -/
inductive Refusal where
  /-- Raised by an arm of `exec` whose instruction has no meaning yet; no arm raises it. Safe: nothing follows. -/
  | notModelled (mnemonic : String)
deriving DecidableEq, Repr

/-- What one transaction or one edge answers. -/
abbrev Result := Host.Outcome State Fault Refusal

/-- The state after reset (R47, R252), with nothing presented and the default latencies (log entries 2, 3 and 4). -/
def State.reset : State where
  calByte := Vector.replicate 24 0x00#8
  calMask := 0x000000#24
  raw := Vector.replicate 6 0x00#8
  tFine := 0x00000000#32
  temp := 0x00000000#32
  press := 0x00000000#32
  calValid := false
  tfValid := false
  pValid := false
  divGuard := false
  pSat := false
  negDiv := false
  err := .none
  seqOp := .idle
  seqCnt := 0#9
  inputs := []
  rdata := 0x00#8
  latT := Config.latTDefault
  latP := Config.latPDefault

end Sys2Proof.Machine
end

