-- ==== Sys2Proof/Machine/Flags.lean ====
section
/-! DEFINITION. The derived flags and the STATUS and ERR bytes (10_state.md R24 to R33). -/

namespace Sys2Proof.Machine

/-- STATUS.BUSY: `SEQ_OP ≠ IDLE` (R25). The `busy` pin shows the same value, also while `rst = 1` (20_memory.md R60,
70_reset_and_hazards.md R250). -/
def State.busy (s : State) : Bool :=
  match s.seqOp with
  | .idle => false
  | .opT => true
  | .opP => true
  | .opTp => true

/-- The 3-bit code of an error (60_exceptions.md R221). -/
def ErrCode.code : ErrCode → BitVec 3
  | .none => 0#3
  | .notCalibrated => 1#3
  | .staleTfine => 2#3
  | .badCmd => 3#3
  | .calIncomplete => 4#3
  | .calLocked => 5#3
  | .busyReject => 6#3
  | .badAddr => 7#3

/-- STATUS.ERRF: `ERR.CODE ≠ 0` (R32). -/
def State.errf (s : State) : Bool := s.err.code != 0#3

/-- One flag as one bit. -/
def flagBit (b : Bool) : BitVec 1 := BitVec.ofBool b

/-- The STATUS byte `{ERRF, NEGDIV, P_SAT, DIVGUARD, P_VALID, TF_VALID, CAL_VALID, BUSY}`, first name bit 7
(R24, 20_memory.md R65). -/
def State.statusByte (s : State) : Byte :=
  (flagBit s.errf ++ flagBit s.negDiv ++ flagBit s.pSat ++ flagBit s.divGuard ++ flagBit s.pValid
    ++ flagBit s.tfValid ++ flagBit s.calValid ++ flagBit s.busy : BitVec (1 + 1 + 1 + 1 + 1 + 1 + 1 + 1))

/-- The ERR byte `{0b00000, CODE}` (R33, 20_memory.md R65). -/
def State.errByte (s : State) : Byte := (0#5 ++ s.err.code : BitVec (5 + 3))

/-- The flags a committed temperature stage writes (R27; 42_compensation.md R180). -/
def State.markTemperature (s : State) : State := { s with tfValid := true }

/-- The flags a committed pressure stage writes (R28 to R31; 42_compensation.md R182). -/
def State.markPressure (s : State) (divGuard pSat negDiv : Bool) : State :=
  { s with pValid := true, divGuard := divGuard, pSat := pSat, negDiv := negDiv }

end Sys2Proof.Machine
end

