-- ==== Sys2Proof/Machine/Operands.lean ====
section
/-! DEFINITION. What the block reads: the register window (20_memory.md R65), the calibration constants
(10_state.md R35, R36) and the raw samples (R43). -/

namespace Sys2Proof.Machine

/-- Byte `j` of a register, little-endian: `X[8j+7:8j]` (20_memory.md R65, R69). -/
def byteOf {n : Nat} (x : BitVec n) (j : Nat) : Byte := x.extractLsb' (8 * j) 8

/-- `rd(a)`, the byte a read of address `a` returns (R65). -/
def State.rd (s : State) (a : Byte) : Byte :=
  if a.toNat = 0x00 then 0x00#8
  else if a.toNat = 0x01 then s.statusByte
  else if a.toNat = 0x02 then s.errByte
  else if a.toNat = 0x03 then 0x00#8
  else if a.toNat ≤ 0x07 then byteOf s.tFine (a.toNat - 0x04)
  else if a.toNat ≤ 0x0B then byteOf s.temp (a.toNat - 0x08)
  else if a.toNat ≤ 0x0F then byteOf s.press (a.toNat - 0x0C)
  else if a.toNat ≤ 0x12 then byteOf s.calMask (a.toNat - 0x10)
  else if a.toNat ≤ 0x87 then 0x00#8
  else if _h : a.toNat ≤ 0x9F then s.calByte[a.toNat - 0x88]
  else if a.toNat ≤ 0xF6 then 0x00#8
  else if _h : a.toNat ≤ 0xFC then s.raw[a.toNat - 0xF7]
  else 0x00#8

/-- `word[k] = {CAL_BYTE[2k+1], CAL_BYTE[2k]}`: the byte at the even address is bits [7:0] (10_state.md R35,
20_memory.md R67). -/
def State.calWord (s : State) (k : Fin 12) : Half :=
  (s.calByte[2 * k.val + 1] ++ s.calByte[2 * k.val] : BitVec (8 + 8))

/-- `cal_k`: constants 0 (dig_T1) and 3 (dig_P1) are unsigned, the others two's complement (R35). -/
def State.calConst (s : State) (k : Fin 12) : Int :=
  if k.val = 0 ∨ k.val = 3 then zext (s.calWord k) else sext (s.calWord k)

/-- The twelve calibration constants by name (R36; 00_scope.md R11). -/
structure Cal where
  t1 : Int
  t2 : Int
  t3 : Int
  p1 : Int
  p2 : Int
  p3 : Int
  p4 : Int
  p5 : Int
  p6 : Int
  p7 : Int
  p8 : Int
  p9 : Int
deriving DecidableEq, Repr

/-- The calibration set the bytes hold, in R36's order. -/
def State.cal (s : State) : Cal where
  t1 := s.calConst 0
  t2 := s.calConst 1
  t3 := s.calConst 2
  p1 := s.calConst 3
  p2 := s.calConst 4
  p3 := s.calConst 5
  p4 := s.calConst 6
  p5 := s.calConst 7
  p6 := s.calConst 8
  p7 := s.calConst 9
  p8 := s.calConst 10
  p9 := s.calConst 11

/-- A 20-bit sample from its MSB, LSB and XLSB bytes; the low nibble of XLSB is discarded (R43, 20_memory.md R68). -/
def assembleAdc (msb lsb xlsb : Byte) : Int :=
  ((msb.toNat <<< 12 ||| lsb.toNat <<< 4 ||| xlsb.toNat >>> 4 : Nat) : Int)

/-- `adc_P` (R43). -/
def State.adcP (s : State) : Int := assembleAdc s.raw[0] s.raw[1] s.raw[2]

/-- `adc_T` (R43). -/
def State.adcT (s : State) : Int := assembleAdc s.raw[3] s.raw[4] s.raw[5]

end Sys2Proof.Machine
end

