-- ==== Sys2Proof/Machine/Ops.lean ====
section
/-! DEFINITION. The shared operations on state: recording an error (the block's whole exception mechanism,
60_exceptions.md R222, R229) and clearing it, the busy check (40_host_access.md R120), the register writes, starting
the sequencer, and the reset edge. -/

namespace Sys2Proof.Machine

/-- `raise Error(c)`: the first error since the last clear is kept; the raising transaction has no other effect
(60_exceptions.md R222). There is no trap entry: no mode, mask or control changes (R229). -/
def raiseError (c : ErrCode) (s : State) : State :=
  { s with err := if s.err = .none then c else s.err }

/-- The end of a transaction that is refused with `c`. -/
def refuse (c : ErrCode) (s : State) : Result := .next (raiseError c s)

/-- ERR.CODE to 0: what CLR_ERR does (41_control_commands.md R153). There is no trap return (60_exceptions.md R230). -/
def clearError (s : State) : State := { s with err := .none }

/-- The check every write passes first (40_host_access.md R120). -/
def afterBusyCheck (s : State) (body : State → Result) : Result :=
  if s.busy then refuse .busyReject s else body s

/-- The `rdata` pin carries `b` during the cycle that ends with this edge (20_memory.md R63). -/
def driveRdata (b : Byte) (s : State) : State := { s with rdata := b }

/-- The CAL_MASK bit of CAL_BYTE[i] (10_state.md R37). -/
def maskBit (i : Fin 24) : BitVec 24 := 1#24 <<< i.val

/-- The complete mask (41_control_commands.md R151). -/
def fullMask : BitVec 24 := 0xFFFFFF#24

/-- CAL_BYTE[i] and its mask bit (40_host_access.md R122). -/
def writeCal (i : Fin 24) (d : Byte) (s : State) : State :=
  { s with calByte := s.calByte.set i.val d, calMask := s.calMask ||| maskBit i }

/-- RAW_P[j]; P_VALID to 0 (R123). -/
def writeRawP (j : Fin 3) (d : Byte) (s : State) : State :=
  { s with raw := s.raw.set j.val d, pValid := false }

/-- RAW_T[j]; TF_VALID and P_VALID to 0 (R124). -/
def writeRawT (j : Fin 3) (d : Byte) (s : State) : State :=
  { s with raw := s.raw.set (3 + j.val) d, tfValid := false, pValid := false }

/-- CAL_VALID to 1 (41_control_commands.md R151). -/
def setCalValid (s : State) : State := { s with calValid := true }

/-- The calibration set is dropped; bytes and results are kept (R152). -/
def clearCal (s : State) : State :=
  { s with calValid := false, calMask := 0x000000#24, tfValid := false, pValid := false }

/-- A command is issued: SEQ_OP names it and SEQ_CNT is loaded with its latency (10_state.md R22,
70_reset_and_hazards.md R262). -/
def startCommand (op : SeqOp) (cycles : Nat) (s : State) : State :=
  { s with seqOp := op, seqCnt := BitVec.ofNat 9 cycles }

/-- The sequencer returns to IDLE with SEQ_CNT = 0 (42_compensation.md R196). -/
def toIdle (s : State) : State := { s with seqOp := .idle, seqCnt := 0#9 }

/-- A rising edge with `rst = 1`: every piece of state takes its reset value, whatever it was, and `rdata` is 0x00
(70_reset_and_hazards.md R250, R251). The pins still to come and the parameters are no state of the block. -/
def resetEdge (s : State) : State :=
  { State.reset with inputs := s.inputs, latT := s.latT, latP := s.latP }

end Sys2Proof.Machine
end

