-- ==== Sys2Proof/Machine/Commands.lean ====
section
/-! DEFINITION. The compensation commands at issue (42_compensation.md R180, R181, R183, the "at issue" blocks). Their
"at commit" blocks are in `Sys2Proof.Machine.Sequencer`. -/

namespace Sys2Proof.Machine

/-- The cycles of BUSY of COMP_TP, LAT_T + LAT_P (70_reset_and_hazards.md R262). -/
def State.latTp (s : State) : Nat := s.latT.cycles + s.latP.cycles

/-- COMP_T (R180, at issue). -/
def execCompT (s : State) : Result :=
  afterBusyCheck s fun s =>
    if s.calValid then .next (startCommand .opT s.latT.cycles s) else refuse .notCalibrated s

/-- COMP_P (R181, at issue): NOT_CALIBRATED is reported before STALE_TFINE (60_exceptions.md R224). -/
def execCompP (s : State) : Result :=
  afterBusyCheck s fun s =>
    if s.calValid then
      if s.tfValid then .next (startCommand .opP s.latP.cycles s) else refuse .staleTfine s
    else refuse .notCalibrated s

/-- COMP_TP (R183, at issue): TF_VALID is not required. -/
def execCompTp (s : State) : Result :=
  afterBusyCheck s fun s =>
    if s.calValid then .next (startCommand .opTp s.latTp s) else refuse .notCalibrated s

end Sys2Proof.Machine
end

