-- ==== Sys2Proof/Machine/Control.lean ====
section
/-! DEFINITION. The control commands NOP, CAL_COMMIT, CAL_CLEAR, CLR_ERR and CMD_RSV (41_control_commands.md). None
sets BUSY (R155). -/

namespace Sys2Proof.Machine

/-- NOP (R150). -/
def execNop (s : State) : Result := afterBusyCheck s fun s => .next s

/-- CAL_COMMIT (R151): a no-op when already valid. -/
def execCalCommit (s : State) : Result :=
  afterBusyCheck s fun s =>
    if s.calValid then .next s
    else if s.calMask = fullMask then .next (setCalValid s)
    else refuse .calIncomplete s

/-- CAL_CLEAR (R152). -/
def execCalClear (s : State) : Result := afterBusyCheck s fun s => .next (clearCal s)

/-- CLR_ERR (R153): the busy check runs first, so it never clears ERR while busy. -/
def execClrErr (s : State) : Result := afterBusyCheck s fun s => .next (clearError s)

/-- CMD_RSV (R154): the code is compared, never used. -/
def execCmdRsv (_d : Byte) (s : State) : Result := afterBusyCheck s fun s => refuse .badCmd s

end Sys2Proof.Machine
end

