-- ==== Sys2Proof/Machine/HostAccess.lean ====
section
/-! DEFINITION. The host access instructions RD, WR_CAL, WR_RAWP, WR_RAWT, WR_RO and WR_RSV (40_host_access.md). -/

namespace Sys2Proof.Machine

/-- RD (R121): the byte of the window, from the state before the edge; no state changes and nothing is refused. -/
def execRd (a : Byte) (s : State) : Result := .next (driveRdata (s.rd a) s)

/-- WR_CAL (R122). -/
def execWrCal (i : Fin 24) (d : Byte) (s : State) : Result :=
  afterBusyCheck s fun s => if s.calValid then refuse .calLocked s else .next (writeCal i d s)

/-- WR_RAWP (R123). -/
def execWrRawp (j : Fin 3) (d : Byte) (s : State) : Result :=
  afterBusyCheck s fun s => .next (writeRawP j d s)

/-- WR_RAWT (R124). -/
def execWrRawt (j : Fin 3) (d : Byte) (s : State) : Result :=
  afterBusyCheck s fun s => .next (writeRawT j d s)

/-- WR_RO (R125): the address and the byte are ignored. -/
def execWrRo (_a _d : Byte) (s : State) : Result :=
  afterBusyCheck s fun s => refuse .badAddr s

/-- WR_RSV (R126): the address and the byte are ignored. -/
def execWrRsv (_a _d : Byte) (s : State) : Result :=
  afterBusyCheck s fun s => refuse .badAddr s

end Sys2Proof.Machine
end

