-- ==== Sys2Proof/Machine/Dispatch.lean ====
section
/-! DEFINITION. One arm per instruction: the host's own effect of one transaction at one edge. -/

namespace Sys2Proof.Machine

def exec (i : Instr) (s : State) : Host.Outcome State Fault Refusal :=
  match i with
  | .rd a => Sys2Proof.Machine.execRd a s
  | .nop => Sys2Proof.Machine.execNop s
  | .compT => Sys2Proof.Machine.execCompT s
  | .compP => Sys2Proof.Machine.execCompP s
  | .compTp => Sys2Proof.Machine.execCompTp s
  | .calCommit => Sys2Proof.Machine.execCalCommit s
  | .calClear => Sys2Proof.Machine.execCalClear s
  | .clrErr => Sys2Proof.Machine.execClrErr s
  | .cmdRsv d => Sys2Proof.Machine.execCmdRsv d s
  | .wrRo a d => Sys2Proof.Machine.execWrRo a d s
  | .wrCal k d => Sys2Proof.Machine.execWrCal k d s
  | .wrRawp j d => Sys2Proof.Machine.execWrRawp j d s
  | .wrRawt j d => Sys2Proof.Machine.execWrRawt j d s
  | .wrRsv a d => Sys2Proof.Machine.execWrRsv a d s

end Sys2Proof.Machine
end

