-- ==== Sys2Proof/Machine/Compensation.lean ====
section
/-! DEFINITION. The two compensation stages as total pure functions (42_compensation.md R170 to R177), with every
intermediate of R186 by name, and the bounded pressure of R182. -/

namespace Sys2Proof.Machine

/-- The values of the temperature stage, in order (R171). -/
structure TempSteps where
  /-- `(adc_T >> 3) - (T1 << 1)` -/
  a : Int
  /-- `a * T2` -/
  aT2 : Int
  /-- `(a * T2) >> 11` -/
  var1 : Int
  /-- `(adc_T >> 4) - T1` -/
  b : Int
  /-- `b * b` -/
  square : Int
  /-- `(square >> 12) * T3` -/
  squareT3 : Int
  /-- `((square >> 12) * T3) >> 14` -/
  var2 : Int
  /-- `var1 + var2` -/
  tFine : Int
  /-- `t_fine * 5 + 128` -/
  scaled : Int
  /-- `(t_fine * 5 + 128) >> 8`, in 0.01 degC -/
  temp : Int
deriving DecidableEq, Repr

/-- TSTAGE with its intermediates (R171, constants of R177). -/
def tempSteps (adcT : Int) (c : Cal) : TempSteps :=
  let a := asr adcT 3 - shl c.t1 1
  let aT2 := a * c.t2
  let var1 := asr aT2 11
  let b := asr adcT 4 - c.t1
  let square := b * b
  let squareT3 := asr square 12 * c.t3
  let var2 := asr squareT3 14
  let tFine := var1 + var2
  let scaled := tFine * 5 + 128
  { a := a, aT2 := aT2, var1 := var1, b := b, square := square, squareT3 := squareT3, var2 := var2, tFine := tFine,
    scaled := scaled, temp := asr scaled 8 }

/-- `TSTAGE(adc_T, cal)` returns `(t_fine, temp)` (R171). -/
def tstage (adcT : Int) (c : Cal) : Int × Int :=
  ((tempSteps adcT c).tFine, (tempSteps adcT c).temp)

/-- The values of the pressure stage, in order (R172). From `q` on they are meaningful when `dv ≠ 0`. -/
structure PressSteps where
  /-- `t_fine - 128000` -/
  x : Int
  /-- `x * x` -/
  xx : Int
  /-- `x * x * P6` -/
  xxP6 : Int
  /-- `x * x * P6 + ((x * P5) << 17) + (P4 << 35)` -/
  var2 : Int
  /-- `((x * x * P3) >> 8) + ((x * P2) << 12)` -/
  y : Int
  /-- `((1 << 47) + y) * P1` -/
  yP1 : Int
  /-- The divisor, `(((1 << 47) + y) * P1) >> 33` -/
  dv : Int
  /-- `1048576 - adc_P` -/
  p0 : Int
  /-- The dividend, `((p0 << 31) - var2) * 3125` -/
  n : Int
  /-- `tdiv(n, dv)` -/
  q : Int
  /-- `P9 * (q >> 13) * (q >> 13)` -/
  qqP9 : Int
  /-- `(P9 * (q >> 13) * (q >> 13)) >> 25` -/
  e : Int
  /-- `P8 * q` -/
  qP8 : Int
  /-- `(P8 * q) >> 19` -/
  f : Int
  /-- `q + e + f` -/
  sum : Int
  /-- `((q + e + f) >> 8) + (P7 << 4)` (R175) -/
  p : Int
deriving DecidableEq, Repr

/-- PSTAGE's values (R172, R175, constants of R177). -/
def pressSteps (adcP tFine : Int) (c : Cal) : PressSteps :=
  let x := tFine - 128000
  let xx := x * x
  let xxP6 := xx * c.p6
  let var2 := xxP6 + shl (x * c.p5) 17 + shl c.p4 35
  let y := asr (xx * c.p3) 8 + shl (x * c.p2) 12
  let yP1 := (shl 1 47 + y) * c.p1
  let dv := asr yP1 33
  let p0 := 1048576 - adcP
  let n := (shl p0 31 - var2) * 3125
  let q := tdiv n dv
  let qqP9 := c.p9 * asr q 13 * asr q 13
  let e := asr qqP9 25
  let qP8 := c.p8 * q
  let f := asr qP8 19
  let sum := q + e + f
  { x := x, xx := xx, xxP6 := xxP6, var2 := var2, y := y, yP1 := yP1, dv := dv, p0 := p0, n := n, q := q, qqP9 := qqP9,
    e := e, qP8 := qP8, f := f, sum := sum, p := asr sum 8 + shl c.p7 4 }

/-- The outcome of the pressure stage (R172). -/
inductive PressOutcome where
  /-- The divisor is 0: the DivideGuard (R174). -/
  | guard
  /-- The pressure in Pa * 256, and whether the dividend or the divisor was negative (R176). -/
  | value (p : Int) (negdiv : Bool)
deriving DecidableEq, Repr

/-- `PSTAGE(adc_P, t_fine, cal)` (R172, R174, R176). -/
def pstage (adcP tFine : Int) (c : Cal) : PressOutcome :=
  let r := pressSteps adcP tFine c
  if r.dv = 0 then .guard else .value r.p (decide (r.n < 0) || decide (r.dv < 0))

/-- The largest value PRESS holds, `2^32 - 1` (R182). -/
def pressMax : Int := 4294967295

/-- The PRESS value of an exact pressure: the nearer bound outside [0, 2^32 - 1] (R182). -/
def satPress (p : Int) : Word :=
  if p < 0 then 0x00000000#32 else if p > pressMax then 0xFFFFFFFF#32 else BitVec.ofInt 32 p

/-- P_SAT for an exact pressure (R182, 10_state.md R30). -/
def pressSaturates (p : Int) : Bool := decide (p < 0) || decide (p > pressMax)

end Sys2Proof.Machine
end

