-- ==== Sys2Proof/Machine/Sequencer.lean ====
section
/-! DEFINITION. The sequencer agent: the "at commit" blocks of the compensation commands (42_compensation.md R180 to
R183) and the step of R196. -/

namespace Sys2Proof.Machine

/-- T_FINE, TEMP and TF_VALID of a temperature stage (R180, R183). -/
def storeT (tf t : Int) (s : State) : State :=
  { s with tFine := enc32 tf, temp := enc32 t }.markTemperature

/-- `STORE_P(r)` (R182). -/
def storeP (r : PressOutcome) (s : State) : State :=
  match r with
  | .guard => { s with press := 0x00000000#32 }.markPressure true false false
  | .value p nd => { s with press := satPress p }.markPressure false (pressSaturates p) nd

/-- COMP_T at commit (R180). -/
def commitT (s : State) : State :=
  storeT (tstage s.adcT s.cal).1 (tstage s.adcT s.cal).2 s

/-- COMP_P at commit (R181): the held T_FINE, read as a signed number. -/
def commitP (s : State) : State :=
  storeP (pstage s.adcP (sext s.tFine) s.cal) s

/-- COMP_TP at commit (R183): the pressure stage uses the `t_fine` just computed. -/
def commitTp (s : State) : State :=
  storeP (pstage s.adcP (tstage s.adcT s.cal).1 s.cal)
    (storeT (tstage s.adcT s.cal).1 (tstage s.adcT s.cal).2 s)

/-- The "at commit" block of the command in flight (R196). -/
def commitOp (op : SeqOp) (s : State) : State :=
  match op with
  | .idle => s
  | .opT => commitT s
  | .opP => commitP s
  | .opTp => commitTp s

/-- The sequencer's part of an edge that finds `SEQ_OP ≠ IDLE` (R196): a count, or the commit. SEQ_CNT = 0 with a
command in flight is no reachable state (10_state.md R44 (d)); R196's "else" takes it as it takes 1 (log entry 11). -/
def sequencerStep (s : State) : State :=
  if 1#9 < s.seqCnt then { s with seqCnt := s.seqCnt - 1#9 } else toIdle (commitOp s.seqOp s)

end Sys2Proof.Machine
end

