-- ==== Sys2Proof/Machine/Edge.lean ====
section
/-! DEFINITION. One rising clock edge: the pins, the transaction they present, the reset, and the two agents together
(20_memory.md R60 to R64, 42_compensation.md R196, 60_exceptions.md R225, 70_reset_and_hazards.md R250, R251). -/

namespace Sys2Proof.Machine

/-- The transaction word of the port values at one edge (30_encoding.md R90). -/
def Pins.word (p : Pins) : TW := mkTW (BitVec.ofBool p.we) p.addr p.wdata

/-- The pins that present a transaction word at one edge. -/
def Pins.ofWord (w : TW) : Pins :=
  { rst := false, req := true, we := twW w == 1#1, addr := twA w, wdata := twD w }

/-- The pins at the next edge: the oldest of those to come; idle when the host presents nothing (log entry 2). -/
def State.pins (s : State) : Pins :=
  match s.inputs with
  | [] => Pins.idle
  | p :: _ => p

/-- The state once the pins of this edge are taken, with `rdata` 0x00 unless a read drives it (R60). -/
def State.takePins (s : State) : State := { s with inputs := s.inputs.tail, rdata := 0x00#8 }

/-- The host's part of an edge: a transaction when `req = 1`, nothing in an idle cycle (R62). -/
def hostPart (p : Pins) (s : State) : Result :=
  if p.req then exec (decodeTW p.word) s else .next s

/-- The sequencer's part, after the host's: it acts when BUSY = 1 in the state `before` the edge (R196). The host's
write is then refused, so the two write different state and their order does not matter (R225; log entry 12). -/
def sequencerPart (before : State) (t : State) : State :=
  if before.busy then sequencerStep t else t

/-- One rising edge with pins `p`. Reset overrides everything (R251). -/
def edge (p : Pins) (s : State) : Result :=
  if p.rst then .next (resetEdge s)
  else
    match hostPart p s with
    | .next t => .next (sequencerPart s t)
    | .fault r => .fault r
    | .refused r => .refused r

end Sys2Proof.Machine
end

