-- ==== Sys2Proof/Machine/Step.lean ====
section
/-! DEFINITION. The step: one rising edge of `clk` (00_scope.md R3 (b)), and where the next instruction is presented.
The block fetches nothing (10_state.md R22): a program is what the host presents (log entry 2). -/

namespace Sys2Proof.Machine

/-- One rising edge of `clk`. -/
def step (s : State) : Host.Outcome State Fault Refusal := edge s.pins s.takePins

/-- The host presents the transaction word `w` at the next edge, ahead of what it was to present
(bits above 16 do not exist on the port; log entry 8). -/
def State.withFetchWord (s : State) (_nbits w : Nat) : State :=
  { s with inputs := Pins.ofWord (BitVec.ofNat 17 w) :: s.inputs }

end Sys2Proof.Machine
end

