-- ==== Sys2Proof/Machine/Assembler.lean ====
section
/-! DEFINITION. The assembly forms and pseudo-instructions as the transaction words they stand for (30_encoding.md R99,
R100), and presenting words to the port. The text syntax itself is not parsed (log entry 17). -/

namespace Sys2Proof.Machine

/-- `rd ADDR` (R99). -/
def asmRd (a : Byte) : TW := mkTW 0#1 a 0x00#8

/-- `wr ADDR, BYTE` (R99). -/
def asmWr (a d : Byte) : TW := mkTW 1#1 a d

/-- `cmd NAME`, by the name's code (R96, R99). -/
def asmCmd (code : Byte) : TW := mkTW 1#1 0x00#8 code

/-- The symbols of R99. -/
def symCMD : Byte := 0x00#8
def symSTATUS : Byte := 0x01#8
def symERR : Byte := 0x02#8
def symTFINE : Byte := 0x04#8
def symTEMP : Byte := 0x08#8
def symPRESS : Byte := 0x0C#8
def symCALMASK : Byte := 0x10#8
def symCAL : Byte := 0x88#8
def symRAWP : Byte := 0xF7#8
def symRAWT : Byte := 0xFA#8

/-- `wr16 CAL+2k, W`: low byte first (R100, 20_memory.md R67). -/
def asmWr16 (k : Nat) (w : Half) : List TW :=
  [asmWr (symCAL + BitVec.ofNat 8 (2 * k)) (w.extractLsb' 0 8),
   asmWr (symCAL + BitVec.ofNat 8 (2 * k + 1)) (w.extractLsb' 8 8)]

/-- The 24 writes of `calload`, ascending from word `k` (R100). -/
def asmCalWords (k : Nat) : List Half → List TW
  | [] => []
  | w :: ws => asmWr16 k w ++ asmCalWords (k + 1) ws

/-- `calload W0, ..., W11` (R100). -/
def asmCalload (ws : Vector Half 12) : List TW := asmCalWords 0 ws.toList ++ [asmCmd codeCalCommit]

/-- `wrraw_t MSB, LSB, XLSB` (R100). -/
def asmWrrawT (msb lsb xlsb : Byte) : List TW :=
  [asmWr symRAWT msb, asmWr (symRAWT + 1#8) lsb, asmWr (symRAWT + 2#8) xlsb]

/-- `wrraw_p MSB, LSB, XLSB` (R100). -/
def asmWrrawP (msb lsb xlsb : Byte) : List TW :=
  [asmWr symRAWP msb, asmWr (symRAWP + 1#8) lsb, asmWr (symRAWP + 2#8) xlsb]

/-- `rd32 X` (R100). -/
def asmRd32 (x : Byte) : List TW := [asmRd x, asmRd (x + 1#8), asmRd (x + 2#8), asmRd (x + 3#8)]

/-- `rd24 CAL_MASK` (R100). -/
def asmRd24Mask : List TW := [asmRd 0x10#8, asmRd 0x11#8, asmRd 0x12#8]

/-- The reads of a `poll` that reads STATUS `n` times (R100). Whether to read again is the host's choice, outside the
block (42_compensation.md R189; log entry 17). -/
def asmPoll (n : Nat) : List TW := List.replicate n (asmRd symSTATUS)

/-- The host presents these words at the coming edges, one an edge, and then those it was to present. -/
def State.present (s : State) (ws : List TW) : State := { s with inputs := ws.map Pins.ofWord ++ s.inputs }

/-- The host presents nothing for `n` edges, and then what it was to present (R101). -/
def State.presentIdle (s : State) (n : Nat) : State := { s with inputs := List.replicate n Pins.idle ++ s.inputs }

end Sys2Proof.Machine
end

