-- ==== Sys2Proof/Machine/Datapath64.lean ====
section
/-! DEFINITION. The 64-bit two's-complement implementation that 42_compensation.md R187 compares with the exact stages:
64-bit wrapping sums, products and left shifts, arithmetic right shifts, truncating division. No instruction uses it;
the exact value is the normative one (R187; log entry 18). -/

namespace Sys2Proof.Machine

/-- A 64-bit signed register. -/
abbrev W64 := BitVec 64

/-- An integer input brought into the 64-bit datapath. -/
def in64 (x : Int) : W64 := BitVec.ofInt 64 x

/-- The temperature stage in 64 bits (R171 with every operation on 64-bit registers). -/
def tstage64 (adcT : Int) (c : Cal) : Int × Int :=
  let a := (in64 adcT).sshiftRight 3 - in64 c.t1 <<< 1
  let var1 := (a * in64 c.t2).sshiftRight 11
  let b := (in64 adcT).sshiftRight 4 - in64 c.t1
  let var2 := ((b * b).sshiftRight 12 * in64 c.t3).sshiftRight 14
  let tFine := var1 + var2
  (tFine.toInt, ((tFine * 5#64 + 128#64).sshiftRight 8).toInt)

/-- The pressure stage in 64 bits (R172 with every operation on 64-bit registers). -/
def pstage64 (adcP tFine : Int) (c : Cal) : PressOutcome :=
  let x := in64 tFine - 128000#64
  let var2 := x * x * in64 c.p6 + (x * in64 c.p5) <<< 17 + in64 c.p4 <<< 35
  let y := (x * x * in64 c.p3).sshiftRight 8 + (x * in64 c.p2) <<< 12
  let dv := ((1#64 <<< 47 + y) * in64 c.p1).sshiftRight 33
  if dv = 0#64 then .guard
  else
    let n := ((1048576#64 - in64 adcP) <<< 31 - var2) * 3125#64
    let q := n.sdiv dv
    let q13 := q.sshiftRight 13
    let e := (in64 c.p9 * q13 * q13).sshiftRight 25
    let f := (in64 c.p8 * q).sshiftRight 19
    let p := (q + e + f).sshiftRight 8 + in64 c.p7 <<< 4
    .value p.toInt (n.slt 0#64 || dv.slt 0#64)

end Sys2Proof.Machine
end

