-- ==== Sys2Proof/Safety.lean ====
section
/-! DEFINITION. What a good state and a good run are, in the terms the statements use: the invariants of
10_state.md R44, the meaning of TF_VALID and P_VALID (R24), the result ranges of 42_compensation.md R185, and the
order of the error checks of 60_exceptions.md R224. -/

namespace Sys2Proof.Machine

/-- The invariants R44 gives every reachable state. -/
structure StatusInv (s : State) : Prop where
  /-- (a) -/
  validMaskFull : s.calValid = true → s.calMask = fullMask
  /-- (b) -/
  tfNeedsCal : s.tfValid = true → s.calValid = true
  /-- (c) -/
  pNeedsTf : s.pValid = true → s.tfValid = true
  /-- (d) -/
  idleIffCount : s.seqOp = .idle ↔ s.seqCnt = 0#9
  /-- (e), first half -/
  opPNeedsTf : s.seqOp = .opP → s.tfValid = true
  /-- (e), second half -/
  flightNeedsCal : s.seqOp ≠ .idle → s.calValid = true
  /-- (f), first half -/
  guardOrSat : ¬ (s.divGuard = true ∧ s.pSat = true)
  /-- (f), second half -/
  guardNoNeg : s.divGuard = true → s.negDiv = false

/-- SEQ_CNT never exceeds the latency of the command in flight (10_state.md R22, 70_reset_and_hazards.md R262). -/
structure CountInv (s : State) : Prop where
  opT : s.seqOp = .opT → s.seqCnt.toNat ≤ s.latT.cycles
  opP : s.seqOp = .opP → s.seqCnt.toNat ≤ s.latP.cycles
  opTp : s.seqOp = .opTp → s.seqCnt.toNat ≤ s.latT.cycles + s.latP.cycles
  idle : s.seqOp = .idle → s.seqCnt.toNat = 0

/-- T_FINE and TEMP, read as signed numbers, lie in the ranges of R39, R40 and R185. -/
structure RangeInv (s : State) : Prop where
  tFineLower : -4194224 ≤ sext s.tFine
  tFineUpper : sext s.tFine ≤ 4194144
  tempLower : -81918 ≤ sext s.temp
  tempUpper : sext s.temp ≤ 81917

/-- PRESS and the outcome flags are those of the outcome `r` (R182). -/
def holdsOutcome (s : State) (r : PressOutcome) : Prop :=
  match r with
  | .guard => s.press = 0x00000000#32 ∧ s.divGuard = true ∧ s.pSat = false ∧ s.negDiv = false
  | .value p nd =>
    s.press = satPress p ∧ s.divGuard = false ∧ s.pSat = pressSaturates p ∧ s.negDiv = nd

/-- What the two valid flags say (R24): TF_VALID, "T_FINE and TEMP were computed from the current RAW_T bytes and
calibration"; P_VALID, "PRESS was computed from the current RAW_P bytes, T_FINE and calibration". -/
structure ResultsCurrent (s : State) : Prop where
  temperature : s.tfValid = true →
    s.tFine = enc32 (tstage s.adcT s.cal).1 ∧ s.temp = enc32 (tstage s.adcT s.cal).2
  pressure : s.pValid = true → holdsOutcome s (pstage s.adcP (sext s.tFine) s.cal)

/-- The input domain of the stages (R170). -/
structure Cal.InRange (c : Cal) : Prop where
  t1 : 0 ≤ c.t1 ∧ c.t1 ≤ 65535
  t2 : -32768 ≤ c.t2 ∧ c.t2 ≤ 32767
  t3 : -32768 ≤ c.t3 ∧ c.t3 ≤ 32767
  p1 : 0 ≤ c.p1 ∧ c.p1 ≤ 65535
  p2 : -32768 ≤ c.p2 ∧ c.p2 ≤ 32767
  p3 : -32768 ≤ c.p3 ∧ c.p3 ≤ 32767
  p4 : -32768 ≤ c.p4 ∧ c.p4 ≤ 32767
  p5 : -32768 ≤ c.p5 ∧ c.p5 ≤ 32767
  p6 : -32768 ≤ c.p6 ∧ c.p6 ≤ 32767
  p7 : -32768 ≤ c.p7 ∧ c.p7 ≤ 32767
  p8 : -32768 ≤ c.p8 ∧ c.p8 ≤ 32767
  p9 : -32768 ≤ c.p9 ∧ c.p9 ≤ 32767

/-- A 20-bit sample (R43, R170). -/
def AdcInRange (adc : Int) : Prop := 0 ≤ adc ∧ adc ≤ 1048575

/-- `t_fine` as TSTAGE produces it (R185). -/
def TFineInRange (tf : Int) : Prop := -4194224 ≤ tf ∧ tf ≤ 4194144

/-- `v` fits `w` two's-complement bits, sign included (R186). -/
def FitsSigned (w : Nat) (v : Int) : Prop := -(2 ^ (w - 1)) ≤ v ∧ v < 2 ^ (w - 1)

/-- A write to a read-only or reserved address. -/
def isBadAddrWrite : Instr → Bool
  | .rd _ => false
  | .nop => false
  | .compT => false
  | .compP => false
  | .compTp => false
  | .calCommit => false
  | .calClear => false
  | .clrErr => false
  | .cmdRsv _ => false
  | .wrRo _ _ => true
  | .wrCal _ _ => false
  | .wrRawp _ _ => false
  | .wrRawt _ _ => false
  | .wrRsv _ _ => true

/-- A write of a reserved command code. -/
def isReservedCommand : Instr → Bool
  | .rd _ => false
  | .nop => false
  | .compT => false
  | .compP => false
  | .compTp => false
  | .calCommit => false
  | .calClear => false
  | .clrErr => false
  | .cmdRsv _ => true
  | .wrRo _ _ => false
  | .wrCal _ _ => false
  | .wrRawp _ _ => false
  | .wrRawt _ _ => false
  | .wrRsv _ _ => false

/-- A compensation command. -/
def isCompensation : Instr → Bool
  | .rd _ => false
  | .nop => false
  | .compT => true
  | .compP => true
  | .compTp => true
  | .calCommit => false
  | .calClear => false
  | .clrErr => false
  | .cmdRsv _ => false
  | .wrRo _ _ => false
  | .wrCal _ _ => false
  | .wrRawp _ _ => false
  | .wrRawt _ _ => false
  | .wrRsv _ _ => false

/-- A calibration write. -/
def isCalWrite : Instr → Bool
  | .rd _ => false
  | .nop => false
  | .compT => false
  | .compP => false
  | .compTp => false
  | .calCommit => false
  | .calClear => false
  | .clrErr => false
  | .cmdRsv _ => false
  | .wrRo _ _ => false
  | .wrCal _ _ => true
  | .wrRawp _ _ => false
  | .wrRawt _ _ => false
  | .wrRsv _ _ => false

/-- The seven checks of 60_exceptions.md R224, in its order: whether each applies, and the code it reports. -/
def errorChecks (i : Instr) (s : State) : List (Bool × ErrCode) :=
  [(i.isWrite && s.busy, .busyReject),
   (isBadAddrWrite i, .badAddr),
   (isReservedCommand i, .badCmd),
   (isCompensation i && !s.calValid, .notCalibrated),
   (i == .compP && !s.tfValid, .staleTfine),
   (i == .calCommit && !s.calValid && s.calMask != fullMask, .calIncomplete),
   (isCalWrite i && s.calValid, .calLocked)]

/-- The first check that applies (R224: "first match wins"). -/
def firstError : List (Bool × ErrCode) → Option ErrCode
  | [] => none
  | (applies, c) :: rest => if applies then some c else firstError rest

/-- The error of transaction `i` in state `s`, if it is refused (R224). -/
def errorOf (i : Instr) (s : State) : Option ErrCode := firstError (errorChecks i s)

/-- The transaction the host presents at the next edge, if any: no reset and `req = 1` (20_memory.md R62). -/
def State.presented (s : State) : Option Instr :=
  if s.pins.rst then none else if s.pins.req then some (decodeTW s.pins.word) else none

/-- The cycles of BUSY a command takes (30_encoding.md R96, 70_reset_and_hazards.md R264). -/
def busyCycles (i : Instr) (s : State) : Nat :=
  match i with
  | .rd _ => 0
  | .nop => 0
  | .compT => s.latT.cycles
  | .compP => s.latP.cycles
  | .compTp => s.latT.cycles + s.latP.cycles
  | .calCommit => 0
  | .calClear => 0
  | .clrErr => 0
  | .cmdRsv _ => 0
  | .wrRo _ _ => 0
  | .wrCal _ _ => 0
  | .wrRawp _ _ => 0
  | .wrRawt _ _ => 0
  | .wrRsv _ _ => 0

/-- The next edge is a commit edge: a command is in flight with SEQ_CNT = 1, or 0 in an unreachable state
(42_compensation.md R196). -/
def State.atCommit (s : State) : Bool := s.busy && decide (s.seqCnt.toNat ≤ 1)

/-- No reset edge among the next `n`. -/
def State.noReset (s : State) (n : Nat) : Prop := ∀ p ∈ s.inputs.take n, p.rst = false

/-- `n` edges from `s`. -/
def run (n : Nat) (s : State) : Result := Sys2Proof.core.run n s

/-- The results and the flags of a compensation command agree in two states (42_compensation.md R196). -/
structure SameResults (s t : State) : Prop where
  tFine : s.tFine = t.tFine
  temp : s.temp = t.temp
  press : s.press = t.press
  tfValid : s.tfValid = t.tfValid
  pValid : s.pValid = t.pValid
  divGuard : s.divGuard = t.divGuard
  pSat : s.pSat = t.pSat
  negDiv : s.negDiv = t.negDiv

/-- The inputs of a compensation command agree in two states (10_state.md R45). -/
structure SameOperands (s t : State) : Prop where
  calByte : s.calByte = t.calByte
  calMask : s.calMask = t.calMask
  calValid : s.calValid = t.calValid
  raw : s.raw = t.raw

/-- Everything a transaction's acceptance and the sequencer's timing depend on agrees in two states: no data byte, no
result. -/
structure SameControl (s t : State) : Prop where
  seqOp : s.seqOp = t.seqOp
  seqCnt : s.seqCnt = t.seqCnt
  inputs : s.inputs = t.inputs
  latT : s.latT = t.latT
  latP : s.latP = t.latP
  calValid : s.calValid = t.calValid
  calMask : s.calMask = t.calMask
  tfValid : s.tfValid = t.tfValid

end Sys2Proof.Machine
end

