-- ==== Sys2Proof/Certificates/Slice0/Obligations.lean ====
section
/-! DEFINITION. The statements about the model, in the order: reset, encoding, one edge, window reads, errors, each
instruction, the arithmetic, whole-machine rules, runs. Each docstring names the rule of spec/ it formalises. -/

open Sys2Proof Sys2Proof.Machine

/-- R47: the reset value of every piece of the block's state. -/
def Obligations.ResetStateHoldsTheResetValues : Prop :=
  (∀ i : Fin 24, State.reset.calByte[i] = 0x00#8) ∧ State.reset.calMask = 0x000000#24 ∧
  (∀ j : Fin 6, State.reset.raw[j] = 0x00#8) ∧
  State.reset.tFine = 0#32 ∧ State.reset.temp = 0#32 ∧ State.reset.press = 0#32 ∧
  State.reset.calValid = false ∧ State.reset.tfValid = false ∧ State.reset.pValid = false ∧
  State.reset.divGuard = false ∧ State.reset.pSat = false ∧ State.reset.negDiv = false ∧
  State.reset.err = .none ∧ State.reset.seqOp = .idle ∧ State.reset.seqCnt = 0#9 ∧
  State.reset.rd 0x01#8 = 0x00#8 ∧ State.reset.rd 0x02#8 = 0x00#8

/-- R251, R250, R47: a reset edge gives every state the reset values, whatever it was, also one R44 excludes: the
presented transaction is discarded, the command in flight abandoned, the calibration lost, and `rdata` is 0x00. That
the model holds the pins still to come, the `rdata` pin and the parameters as fields, and that a reset edge takes one
set of pins and leaves the parameters, is its choice (log entries 2, 3 and 4). -/
def Obligations.ResetEdgeOverridesEverything : Prop :=
  ∀ s : State, s.pins.rst = true →
    step s = .next
      { calByte := Vector.replicate 24 0x00#8, calMask := 0x000000#24, raw := Vector.replicate 6 0x00#8,
        tFine := 0#32, temp := 0#32, press := 0#32, calValid := false, tfValid := false, pValid := false,
        divGuard := false, pSat := false, negDiv := false, err := .none, seqOp := .idle, seqCnt := 0#9,
        inputs := s.inputs.tail, rdata := 0x00#8, latT := s.latT, latP := s.latP }

/-- Decode and encode agree, for every well-formed instruction and every operand (R90, R93, R96, R97). -/
def Obligations.DecodeOfEncodeIsTheInstruction : Prop :=
  ∀ i : Instr, i.wf = true → decodeTW (encode i) = i

/-- Every one of the 2^17 words decodes to a well-formed instruction, a write exactly when W = 1 (R93). -/
def Obligations.EveryWordDecodesToAWellFormedInstruction : Prop :=
  ∀ w : TW, (decodeTW w).wf = true ∧ ((decodeTW w).isWrite = true ↔ twW w = 1#1)

/-- No bit of a write word is dropped; a read word keeps its address (R90, R92, R93). -/
def Obligations.EncodeOfDecodeIsTheWord : Prop :=
  ∀ w : TW, encode (decodeTW w) = if twW w = 1#1 then w else mkTW 0#1 (twA w) 0x00#8

/-- R94 and R97: the address classes and the reserved codes select their instruction, and how many there are of each. -/
def Obligations.AddressClassesSelectTheInstruction : Prop :=
  (∀ a d : Byte,
    (isRoAddr a = true → decodeTW (mkTW 1#1 a d) = .wrRo a d) ∧
    (isRsvAddr a = true → decodeTW (mkTW 1#1 a d) = .wrRsv a d) ∧
    (isRsvCode d = true → decodeTW (mkTW 1#1 0x00#8 d) = .cmdRsv d) ∧
    (∀ i : Fin 24, decodeTW (mkTW 1#1 (0x88#8 + BitVec.ofNat 8 i.val) d) = .wrCal i d) ∧
    (∀ j : Fin 3, decodeTW (mkTW 1#1 (0xF7#8 + BitVec.ofNat 8 j.val) d) = .wrRawp j d) ∧
    (∀ j : Fin 3, decodeTW (mkTW 1#1 (0xFA#8 + BitVec.ofNat 8 j.val) d) = .wrRawt j d)) ∧
  ((List.range 256).filter fun n => isRoAddr (BitVec.ofNat 8 n)).length = 17 ∧
  ((List.range 256).filter fun n => isRsvAddr (BitVec.ofNat 8 n)).length = 208 ∧
  ((List.range 256).filter fun n => isRsvCode (BitVec.ofNat 8 n)).length = 249

/-- Words written out from the "Encoding" and "Example" lines of the instructions' rules decode to them. -/
def Obligations.WordsOfTheRulesDecode : Prop :=
  decodeTW 0x00100#17 = .rd 0x01#8 ∧ decodeTW 0x10000#17 = .nop ∧ decodeTW 0x10001#17 = .compT ∧
  decodeTW 0x10002#17 = .compP ∧ decodeTW 0x10003#17 = .compTp ∧ decodeTW 0x10010#17 = .calCommit ∧
  decodeTW 0x10011#17 = .calClear ∧ decodeTW 0x10020#17 = .clrErr ∧ decodeTW 0x100FF#17 = .cmdRsv 0xFF#8 ∧
  decodeTW 0x10200#17 = .wrRo 0x02#8 0x00#8 ∧ decodeTW 0x18870#17 = .wrCal 0 0x70#8 ∧
  decodeTW 0x1F9C5#17 = .wrRawp 2 0xC5#8 ∧ decodeTW 0x1FA7F#17 = .wrRawt 0 0x7F#8 ∧
  decodeTW 0x1F427#17 = .wrRsv 0xF4#8 0x27#8

/-- A step runs the decoded instruction: when the pins of this edge present a transaction and no reset, the step is
`exec` of it, and then the sequencer's step if BUSY = 1 before the edge (R62, R196, R225). The same holds of a word
placed by `withFetchWord`. -/
def Obligations.StepRunsThePresentedTransaction : Prop :=
  ∀ (s t : State) (i : Instr),
    (∀ (p : Pins) (rest : List Pins), s.inputs = p :: rest → p.rst = false → p.req = true → decodeTW p.word = i →
      exec i { s with inputs := rest, rdata := 0x00#8 } = .next t →
      step s = .next (if s.busy then sequencerStep t else t)) ∧
    (∀ w : TW, decodeTW w = i → exec i { s with rdata := 0x00#8 } = .next t →
      step (s.withFetchWord 24 w.toNat) = .next (if s.busy then sequencerStep t else t))

/-- An idle cycle: the host does nothing and only the sequencer may act (R62, R101); an empty schedule is an idle cycle
(the model's choice, log entry 2). -/
def Obligations.IdleCycleOnlyRunsTheSequencer : Prop :=
  ∀ s : State, s.pins.rst = false → s.pins.req = false →
    (s.busy = false → step s = .next { s with inputs := s.inputs.tail, rdata := 0x00#8 }) ∧
    (s.busy = true → step s = .next (sequencerStep { s with inputs := s.inputs.tail, rdata := 0x00#8 }))

/-- R265, R229: nothing stalls and nothing traps: every edge of every state gives a next state. -/
def Obligations.EveryEdgeGivesANextState : Prop :=
  ∀ s : State, ∃ t, step s = .next t

/-- R63: a read returns `rd(a)` of the state before the edge, changes no state and raises no error, busy or not; and
`rdata` is 0x00 in every other cycle (R60), a reset edge among them (R250). That State holds the byte of the pin is the
model's choice (log entry 3). -/
def Obligations.ReadReturnsTheByteBeforeTheEdge : Prop :=
  (∀ (a : Byte) (s : State), exec (.rd a) s = .next { s with rdata := s.rd a }) ∧
  (∀ s t : State, step s = .next t →
    t.rdata = if s.pins.rst = false ∧ s.pins.req = true ∧ s.pins.we = false then s.rd s.pins.addr else 0x00#8)

/-- The parameters are never written and one set of pins is taken at each edge: the model's own fields (R20, log entries
2 and 4). -/
def Obligations.EdgeKeepsParametersAndTakesOneSetOfPins : Prop :=
  ∀ s t : State, step s = .next t → t.latT = s.latT ∧ t.latP = s.latP ∧ t.inputs = s.inputs.tail

/-- The read column of R65, address by address, but for STATUS and ERR; little-endian results (R69), stored bytes read
back whole (R34, R42), CMD and every reserved address 0x00 (R23, R74). -/
def Obligations.WindowReadTable : Prop :=
  ∀ s : State,
    s.rd 0x00#8 = 0x00#8 ∧
    (∀ j : Fin 4, s.rd (0x04#8 + BitVec.ofNat 8 j.val) = (s.tFine >>> (8 * j.val)).setWidth 8) ∧
    (∀ j : Fin 4, s.rd (0x08#8 + BitVec.ofNat 8 j.val) = (s.temp >>> (8 * j.val)).setWidth 8) ∧
    (∀ j : Fin 4, s.rd (0x0C#8 + BitVec.ofNat 8 j.val) = (s.press >>> (8 * j.val)).setWidth 8) ∧
    (∀ j : Fin 3, s.rd (0x10#8 + BitVec.ofNat 8 j.val) = (s.calMask >>> (8 * j.val)).setWidth 8) ∧
    (∀ i : Fin 24, s.rd (0x88#8 + BitVec.ofNat 8 i.val) = s.calByte[i]) ∧
    (∀ j : Fin 6, s.rd (0xF7#8 + BitVec.ofNat 8 j.val) = s.raw[j]) ∧
    (∀ a : Byte, isRsvAddr a = true → s.rd a = 0x00#8)

/-- R32, with the other bits of STATUS (R24, R25) and the ERR byte (R33, R221). -/
def Obligations.StatusAndErrBytes : Prop :=
  ∀ s : State,
    (s.rd 0x01#8).getLsbD 0 = decide (s.seqOp ≠ .idle) ∧
    (s.rd 0x01#8).getLsbD 1 = s.calValid ∧ (s.rd 0x01#8).getLsbD 2 = s.tfValid ∧
    (s.rd 0x01#8).getLsbD 3 = s.pValid ∧ (s.rd 0x01#8).getLsbD 4 = s.divGuard ∧
    (s.rd 0x01#8).getLsbD 5 = s.pSat ∧ (s.rd 0x01#8).getLsbD 6 = s.negDiv ∧
    (s.rd 0x01#8).getLsbD 7 = decide (s.rd 0x02#8 ≠ 0x00#8) ∧
    s.rd 0x02#8 =
      match s.err with
      | .none => 0x00#8
      | .notCalibrated => 0x01#8
      | .staleTfine => 0x02#8
      | .badCmd => 0x03#8
      | .calIncomplete => 0x04#8
      | .calLocked => 0x05#8
      | .busyReject => 0x06#8
      | .badAddr => 0x07#8

/-- R120: every write of every class and code is refused while BUSY = 1, with no other effect; reads are not. -/
def Obligations.BusyRefusesEveryWriteAndNoRead : Prop :=
  (∀ (i : Instr) (s : State), i.isWrite = true → s.busy = true →
    exec i s = .next { s with err := if s.err = .none then .busyReject else s.err }) ∧
  (∀ (a : Byte) (s : State), s.busy = true → exec (.rd a) s = .next { s with rdata := s.rd a })

/-- R224: the first check that applies, in the rule's order, gives the error; the refused transaction does nothing but
record it if none is recorded (R220, R222); a transaction that no check refuses raises nothing. -/
def Obligations.FirstMatchingCheckGivesTheError : Prop :=
  ∀ (i : Instr) (s : State),
    (∀ c : ErrCode, errorOf i s = some c →
      exec i s = .next { s with err := if s.err = .none then c else s.err }) ∧
    (errorOf i s = none → ∃ t, exec i s = .next t ∧ t.err = if i = .clrErr then .none else s.err)

/-- R223: over any edge of any state a recorded error stays, unless the edge is a reset or an accepted CLR_ERR. -/
def Obligations.RecordedErrorStaysUntilClrErrOrReset : Prop :=
  ∀ s t : State, step s = .next t → s.err ≠ .none →
    t.err = s.err ∨
    (t.err = .none ∧ (s.pins.rst = true ∨ (s.presented = some .clrErr ∧ s.busy = false)))

/-- R121 and R92: RD, whatever the D field of its word is. -/
def Obligations.RdReturnsTheWindowByte : Prop :=
  ∀ (a d : Byte) (s : State),
    encode (.rd a) = mkTW 0#1 a 0x00#8 ∧ decodeTW (mkTW 0#1 a d) = .rd a ∧
    exec (.rd a) s = .next { s with rdata := s.rd a } ∧
    s.rd 0x00#8 = 0x00#8 ∧ (isRsvAddr a = true → s.rd a = 0x00#8)

/-- R122: the three outcomes of WR_CAL. -/
def Obligations.WrCalStoresTheByteAndItsMaskBit : Prop :=
  ∀ (i : Fin 24) (d : Byte) (s : State),
    decodeTW (mkTW 1#1 (0x88#8 + BitVec.ofNat 8 i.val) d) = .wrCal i d ∧
    (s.busy = true → exec (.wrCal i d) s = .next { s with err := if s.err = .none then .busyReject else s.err }) ∧
    (s.busy = false → s.calValid = true →
      exec (.wrCal i d) s = .next { s with err := if s.err = .none then .calLocked else s.err }) ∧
    (s.busy = false → s.calValid = false →
      exec (.wrCal i d) s = .next { s with calByte := s.calByte.set i d, calMask := s.calMask ||| 1#24 <<< i.val })

/-- R123: the two outcomes of WR_RAWP; RAW_P is RAW[0..2]. -/
def Obligations.WrRawpStoresTheByteAndClearsPValid : Prop :=
  ∀ (j : Fin 3) (d : Byte) (s : State),
    decodeTW (mkTW 1#1 (0xF7#8 + BitVec.ofNat 8 j.val) d) = .wrRawp j d ∧
    (s.busy = true → exec (.wrRawp j d) s = .next { s with err := if s.err = .none then .busyReject else s.err }) ∧
    (s.busy = false → exec (.wrRawp j d) s = .next { s with raw := s.raw.set j.val d, pValid := false })

/-- R124: the two outcomes of WR_RAWT; RAW_T is RAW[3..5]. -/
def Obligations.WrRawtStoresTheByteAndClearsBothValids : Prop :=
  ∀ (j : Fin 3) (d : Byte) (s : State),
    decodeTW (mkTW 1#1 (0xFA#8 + BitVec.ofNat 8 j.val) d) = .wrRawt j d ∧
    (s.busy = true → exec (.wrRawt j d) s = .next { s with err := if s.err = .none then .busyReject else s.err }) ∧
    (s.busy = false →
      exec (.wrRawt j d) s = .next { s with raw := s.raw.set (3 + j.val) d, tfValid := false, pValid := false })

/-- R125 and R126: a write to a read-only or reserved address. -/
def Obligations.WritesToReadOnlyAndReservedAddressesAreRefused : Prop :=
  ∀ (a d : Byte) (s : State),
    (isRoAddr a = true → decodeTW (mkTW 1#1 a d) = .wrRo a d) ∧
    (isRsvAddr a = true → decodeTW (mkTW 1#1 a d) = .wrRsv a d) ∧
    (s.busy = true →
      exec (.wrRo a d) s = .next { s with err := if s.err = .none then .busyReject else s.err } ∧
      exec (.wrRsv a d) s = .next { s with err := if s.err = .none then .busyReject else s.err }) ∧
    (s.busy = false →
      exec (.wrRo a d) s = .next { s with err := if s.err = .none then .badAddr else s.err } ∧
      exec (.wrRsv a d) s = .next { s with err := if s.err = .none then .badAddr else s.err })

/-- R150: NOP, and that its edge with BUSY = 0 is an idle cycle's. -/
def Obligations.NopDoesNothing : Prop :=
  ∀ s : State,
    decodeTW 0x10000#17 = .nop ∧
    (s.busy = true → exec .nop s = .next { s with err := if s.err = .none then .busyReject else s.err }) ∧
    (s.busy = false → exec .nop s = .next s ∧
      ∀ rest : List Pins, step { s with inputs := Pins.ofWord 0x10000#17 :: rest } =
        step { s with inputs := Pins.idle :: rest })

/-- R151: the four outcomes of CAL_COMMIT. -/
def Obligations.CalCommitNeedsTheFullMask : Prop :=
  ∀ s : State,
    decodeTW 0x10010#17 = .calCommit ∧
    (s.busy = true → exec .calCommit s = .next { s with err := if s.err = .none then .busyReject else s.err }) ∧
    (s.busy = false → s.calValid = true → exec .calCommit s = .next s) ∧
    (s.busy = false → s.calValid = false → s.calMask ≠ 0xFFFFFF#24 →
      exec .calCommit s = .next { s with err := if s.err = .none then .calIncomplete else s.err }) ∧
    (s.busy = false → s.calValid = false → s.calMask = 0xFFFFFF#24 →
      exec .calCommit s = .next { s with calValid := true })

/-- R152: CAL_CLEAR clears the valid flags and the mask and keeps everything else. -/
def Obligations.CalClearDropsTheSetAndKeepsTheBytes : Prop :=
  ∀ s : State,
    decodeTW 0x10011#17 = .calClear ∧
    (s.busy = true → exec .calClear s = .next { s with err := if s.err = .none then .busyReject else s.err }) ∧
    (s.busy = false → exec .calClear s =
      .next { s with calValid := false, calMask := 0x000000#24, tfValid := false, pValid := false })

/-- R153: CLR_ERR; while busy it clears nothing. -/
def Obligations.ClrErrClearsTheCode : Prop :=
  ∀ s : State,
    decodeTW 0x10020#17 = .clrErr ∧
    (s.busy = true → exec .clrErr s = .next { s with err := if s.err = .none then .busyReject else s.err }) ∧
    (s.busy = false → exec .clrErr s = .next { s with err := .none })

/-- R154: a reserved command code. -/
def Obligations.ReservedCommandIsRefused : Prop :=
  ∀ (d : Byte) (s : State),
    (isRsvCode d = true → decodeTW (mkTW 1#1 0x00#8 d) = .cmdRsv d) ∧
    (s.busy = true → exec (.cmdRsv d) s = .next { s with err := if s.err = .none then .busyReject else s.err }) ∧
    (s.busy = false → exec (.cmdRsv d) s = .next { s with err := if s.err = .none then .badCmd else s.err })

/-- R180: COMP_T at issue and at commit. -/
def Obligations.CompTComputesTheTemperature : Prop :=
  ∀ s : State,
    decodeTW 0x10001#17 = .compT ∧
    (s.busy = true → exec .compT s = .next { s with err := if s.err = .none then .busyReject else s.err }) ∧
    (s.busy = false → s.calValid = false →
      exec .compT s = .next { s with err := if s.err = .none then .notCalibrated else s.err }) ∧
    (s.busy = false → s.calValid = true →
      exec .compT s = .next { s with seqOp := .opT, seqCnt := BitVec.ofNat 9 s.latT.cycles }) ∧
    (s.seqOp = .opT → s.seqCnt = 1#9 →
      sequencerStep s = { s with
        tFine := enc32 (tstage s.adcT s.cal).1, temp := enc32 (tstage s.adcT s.cal).2, tfValid := true,
        seqOp := .idle, seqCnt := 0#9 })

/-- R181: COMP_P at issue and at commit (its store is `PressureStoreSaturates`). -/
def Obligations.CompPComputesThePressureFromTheHeldTFine : Prop :=
  ∀ s : State,
    decodeTW 0x10002#17 = .compP ∧
    (s.busy = true → exec .compP s = .next { s with err := if s.err = .none then .busyReject else s.err }) ∧
    (s.busy = false → s.calValid = false →
      exec .compP s = .next { s with err := if s.err = .none then .notCalibrated else s.err }) ∧
    (s.busy = false → s.calValid = true → s.tfValid = false →
      exec .compP s = .next { s with err := if s.err = .none then .staleTfine else s.err }) ∧
    (s.busy = false → s.calValid = true → s.tfValid = true →
      exec .compP s = .next { s with seqOp := .opP, seqCnt := BitVec.ofNat 9 s.latP.cycles }) ∧
    (s.seqOp = .opP → s.seqCnt = 1#9 →
      sequencerStep s =
        { storeP (pstage s.adcP s.tFine.toInt s.cal) s with seqOp := .idle, seqCnt := 0#9 })

/-- R183: COMP_TP at issue and at commit: the pressure stage uses the `t_fine` just computed. -/
def Obligations.CompTpComputesBothFromTheFreshTFine : Prop :=
  ∀ s : State,
    decodeTW 0x10003#17 = .compTp ∧
    (s.busy = true → exec .compTp s = .next { s with err := if s.err = .none then .busyReject else s.err }) ∧
    (s.busy = false → s.calValid = false →
      exec .compTp s = .next { s with err := if s.err = .none then .notCalibrated else s.err }) ∧
    (s.busy = false → s.calValid = true →
      exec .compTp s =
        .next { s with seqOp := .opTp, seqCnt := BitVec.ofNat 9 (s.latT.cycles + s.latP.cycles) }) ∧
    (s.seqOp = .opTp → s.seqCnt = 1#9 →
      sequencerStep s =
        { storeP (pstage s.adcP (tstage s.adcT s.cal).1 s.cal)
            { s with tFine := enc32 (tstage s.adcT s.cal).1, temp := enc32 (tstage s.adcT s.cal).2,
                     tfValid := true } with
          seqOp := .idle, seqCnt := 0#9 })

/-- R182: STORE_P. -/
def Obligations.PressureStoreSaturates : Prop :=
  ∀ s : State,
    storeP .guard s =
      { s with press := 0#32, divGuard := true, pSat := false, negDiv := false, pValid := true } ∧
    ∀ (p : Int) (nd : Bool),
      (p < 0 → storeP (.value p nd) s =
        { s with press := 0#32, divGuard := false, pSat := true, negDiv := nd, pValid := true }) ∧
      (p > 2 ^ 32 - 1 → storeP (.value p nd) s =
        { s with press := 0xFFFFFFFF#32, divGuard := false, pSat := true, negDiv := nd, pValid := true }) ∧
      (0 ≤ p → p ≤ 2 ^ 32 - 1 →
        (∃ b : Word, (b.toNat : Int) = p ∧ storeP (.value p nd) s =
          { s with press := b, divGuard := false, pSat := false, negDiv := nd, pValid := true }))

/-- R171: the temperature stage, every shift written as a floor division by its power of two. -/
def Obligations.TemperatureStageFormula : Prop :=
  ∀ (adcT : Int) (c : Cal),
    let var1 := ((adcT.fdiv 8 - c.t1 * 2) * c.t2).fdiv 2048
    let d := adcT.fdiv 16 - c.t1
    let var2 := ((d * d).fdiv 4096 * c.t3).fdiv 16384
    tstage adcT c = (var1 + var2, ((var1 + var2) * 5 + 128).fdiv 256)

/-- R172 with R175 and R176: the pressure stage, every shift written out, with the grouping of R175 and the flag of
R176. -/
def Obligations.PressureStageFormula : Prop :=
  ∀ (adcP tFine : Int) (c : Cal),
    let x := tFine - 128000
    let var2 := x * x * c.p6 + x * c.p5 * 131072 + c.p4 * 34359738368
    let y := (x * x * c.p3).fdiv 256 + x * c.p2 * 4096
    let dv := ((140737488355328 + y) * c.p1).fdiv 8589934592
    let n := ((1048576 - adcP) * 2147483648 - var2) * 3125
    let q := n.tdiv dv
    let e := (c.p9 * q.fdiv 8192 * q.fdiv 8192).fdiv 33554432
    let f := (c.p8 * q).fdiv 524288
    (dv = 0 → pstage adcP tFine c = .guard) ∧
    (dv ≠ 0 → pstage adcP tFine c =
      .value ((q + e + f).fdiv 256 + c.p7 * 16) (decide (n < 0 ∨ dv < 0)))

/-- R173's division: the sign and magnitude form, floor on non-negative operands, and one above floor when the signs are
opposite and the remainder is not zero (90_conflicts.md C2 gives that condition; R173 says "a negative operand", log
entry 19). -/
def Obligations.DivisionRoundsTowardZero : Prop :=
  ∀ n d : Int, d ≠ 0 →
    tdiv n d = n.sign * d.sign * (n.natAbs / d.natAbs : Nat) ∧
    (0 ≤ n → 0 < d → tdiv n d = n.fdiv d) ∧
    ((n < 0 ∧ 0 < d ∨ 0 < n ∧ d < 0) → ¬ d ∣ n → tdiv n d = n.fdiv d + 1)

/-- R174: the DivideGuard applies exactly when the product lies in [0, 2^33), in particular whenever P1 = 0; the commit
then stores 0 and DIVGUARD, and ERR is not written. -/
def Obligations.DivideGuardExactlyOnAZeroDivisor : Prop :=
  (∀ (adcP tFine : Int) (c : Cal),
    (pstage adcP tFine c = .guard ↔
      0 ≤ (2 ^ 47 + (pressSteps adcP tFine c).y) * c.p1 ∧
      (2 ^ 47 + (pressSteps adcP tFine c).y) * c.p1 < 2 ^ 33) ∧
    (c.p1 = 0 → pstage adcP tFine c = .guard)) ∧
  (∀ s : State, s.seqOp = .opP → s.seqCnt = 1#9 → pstage s.adcP (sext s.tFine) s.cal = .guard →
    (sequencerStep s).press = 0#32 ∧ (sequencerStep s).divGuard = true ∧ (sequencerStep s).err = s.err) ∧
  (∀ s : State, s.seqOp = .opTp → s.seqCnt = 1#9 → pstage s.adcP (tstage s.adcT s.cal).1 s.cal = .guard →
    (sequencerStep s).press = 0#32 ∧ (sequencerStep s).divGuard = true ∧ (sequencerStep s).err = s.err)

/-- R43: the samples' assembly and their range. -/
def Obligations.SamplesAreTwentyBitsMsbFirst : Prop :=
  ∀ s : State,
    s.adcT = s.raw[3].toNat * 4096 + s.raw[4].toNat * 16 + s.raw[5].toNat / 16 ∧
    s.adcP = s.raw[0].toNat * 4096 + s.raw[1].toNat * 16 + s.raw[2].toNat / 16 ∧
    0 ≤ s.adcT ∧ s.adcT ≤ 1048575 ∧ 0 ≤ s.adcP ∧ s.adcP ≤ 1048575

/-- R35: the constants' bytes and signedness. -/
def Obligations.CalibrationConstantsFromTheirBytes : Prop :=
  ∀ (s : State) (k : Fin 12),
    (s.calWord k).toNat = 256 * s.calByte[2 * k.val + 1].toNat + s.calByte[2 * k.val].toNat ∧
    (k.val = 0 ∨ k.val = 3 → s.calConst k = (s.calWord k).toNat) ∧
    (¬ (k.val = 0 ∨ k.val = 3) → s.calConst k =
      if (s.calWord k).toNat > 32767 then ((s.calWord k).toNat : Int) - 65536 else (s.calWord k).toNat) ∧
    [s.cal.t1, s.cal.t2, s.cal.t3, s.cal.p1, s.cal.p2, s.cal.p3, s.cal.p4, s.cal.p5, s.cal.p6, s.cal.p7, s.cal.p8,
      s.cal.p9] = (List.finRange 12).map s.calConst

/-- R185: the ranges of the temperature stage, that the 32-bit registers hold its results exactly, and that a pressure
outside PRESS's range is caught. -/
def Obligations.TemperatureResultsFitTheirRegisters : Prop :=
  (∀ (adcT : Int) (c : Cal), AdcInRange adcT → c.InRange →
    -4194224 ≤ (tstage adcT c).1 ∧ (tstage adcT c).1 ≤ 4194144 ∧
    -81918 ≤ (tstage adcT c).2 ∧ (tstage adcT c).2 ≤ 81917 ∧
    (enc32 (tstage adcT c).1).toInt = (tstage adcT c).1 ∧ (enc32 (tstage adcT c).2).toInt = (tstage adcT c).2) ∧
  (∀ p : Int, ((satPress p).toNat : Int) = max 0 (min p (2 ^ 32 - 1)) ∧
    (pressSaturates p = true ↔ p < 0 ∨ 2 ^ 32 - 1 < p))

/-- R186: the signed width of every intermediate, for every input of R170. -/
def Obligations.IntermediatesFitTheirWidths : Prop :=
  ∀ (adcT adcP tf : Int) (c : Cal), AdcInRange adcT → AdcInRange adcP → TFineInRange tf → c.InRange →
    (let r := tempSteps adcT c
     FitsSigned 18 r.a ∧ FitsSigned 33 r.aT2 ∧ FitsSigned 22 r.var1 ∧ FitsSigned 17 r.b ∧ FitsSigned 33 r.square ∧
     FitsSigned 36 r.squareT3 ∧ FitsSigned 22 r.var2 ∧ FitsSigned 23 r.tFine ∧ FitsSigned 26 r.scaled ∧
     FitsSigned 18 r.temp) ∧
    (let r := pressSteps adcP tf c
     FitsSigned 24 r.x ∧ FitsSigned 46 r.xx ∧ FitsSigned 61 r.xxP6 ∧ FitsSigned 61 r.var2 ∧ FitsSigned 53 r.y ∧
     FitsSigned 69 r.yP1 ∧ FitsSigned 36 r.dv ∧ FitsSigned 72 r.n ∧ FitsSigned 72 r.q ∧ FitsSigned 132 r.qqP9 ∧
     FitsSigned 107 r.e ∧ FitsSigned 87 r.qP8 ∧ FitsSigned 99 r.p)

/-- R187: on inputs whose intermediates fit 64 bits, the sum `q + e + f` of 95_test_vectors.md section 2.4 among them
(log entry 18), a 64-bit implementation gives the same results. -/
def Obligations.SixtyFourBitsAgreeWhereIntermediatesFit : Prop :=
  ∀ (adcT adcP tf : Int) (c : Cal), AdcInRange adcT → AdcInRange adcP → TFineInRange tf → c.InRange →
    tstage64 adcT c = tstage adcT c ∧
    (let r := pressSteps adcP tf c
     FitsSigned 64 r.yP1 → FitsSigned 64 r.n → FitsSigned 64 r.q → FitsSigned 64 r.qqP9 → FitsSigned 64 r.e →
     FitsSigned 64 r.qP8 → FitsSigned 64 r.sum → FitsSigned 64 r.p →
     pstage64 adcP tf c = pstage adcP tf c)

/-- R44, inductively: every edge keeps the invariants, from every state that meets them, whatever the host presents. -/
def Obligations.EdgeKeepsTheStatusInvariants : Prop :=
  ∀ s t : State, StatusInv s → step s = .next t → StatusInv t

/-- The reset state meets the invariants of R44, the counter bounds of R22, the ranges of R185 and the meaning of the
valid flags. -/
def Obligations.ResetMeetsTheInvariants : Prop :=
  StatusInv State.reset ∧ CountInv State.reset ∧ RangeInv State.reset ∧ ResultsCurrent State.reset

/-- R44: every state reached from reset satisfies (a) to (f), whatever the host presents at each edge and whatever the
latencies are. -/
def Obligations.ReachableStatesSatisfyTheInvariants : Prop :=
  ∀ (n : Nat) (pins : List Pins) (lt lp : Config.Latency) (t : State),
    run n { State.reset with inputs := pins, latT := lt, latP := lp } = .next t →
    (t.calValid = true → t.calMask = 0xFFFFFF#24) ∧
    (t.tfValid = true → t.calValid = true) ∧
    (t.pValid = true → t.tfValid = true) ∧
    (t.seqOp = .idle ↔ t.seqCnt = 0#9) ∧
    (t.seqOp = .opP → t.tfValid = true) ∧ (t.seqOp ≠ .idle → t.calValid = true) ∧
    ¬ (t.divGuard = true ∧ t.pSat = true) ∧ (t.divGuard = true → t.negDiv = false)

/-- R22: SEQ_CNT stays within the latency of the command in flight, so it never exceeds 510 and never wraps. -/
def Obligations.EdgeKeepsTheCounterInItsLatency : Prop :=
  ∀ s t : State, CountInv s → step s = .next t → CountInv t ∧ t.seqCnt.toNat ≤ 510

/-- R39, R40, R185: T_FINE and TEMP stay in their ranges over every edge. -/
def Obligations.EdgeKeepsTheResultRanges : Prop :=
  ∀ s t : State, RangeInv s → step s = .next t → RangeInv t

/-- R24, R27, R28: TF_VALID and P_VALID keep their meaning over every edge: the results they mark are those of the raw
bytes and the calibration held now. -/
def Obligations.ValidFlagsMarkCurrentResults : Prop :=
  ∀ s t : State, StatusInv s → ResultsCurrent s → step s = .next t → ResultsCurrent t

/-- R38: while CAL_VALID = 1 no edge but a reset changes a calibration byte, and a calibration write is refused with
CAL_LOCKED. -/
def Obligations.CalibrationIsImmutableWhileValid : Prop :=
  ∀ s : State, s.calValid = true →
    (∀ t : State, s.pins.rst = false → step s = .next t → t.calByte = s.calByte) ∧
    (∀ (i : Fin 24) (d : Byte), s.busy = false →
      exec (.wrCal i d) s = .next { s with err := if s.err = .none then .calLocked else s.err })

/-- R26: what sets and clears CAL_VALID, over any edge. -/
def Obligations.CalValidChangesOnlyByItsCommands : Prop :=
  ∀ s t : State, step s = .next t →
    (s.calValid = false → t.calValid = true →
      s.presented = some .calCommit ∧ s.busy = false ∧ s.calMask = 0xFFFFFF#24) ∧
    (s.calValid = true → t.calValid = false →
      s.pins.rst = true ∨ (s.presented = some .calClear ∧ s.busy = false))

/-- R27, R28: what sets and clears TF_VALID and P_VALID, over any edge. -/
def Obligations.ResultValidFlagsChangeOnlyAsStated : Prop :=
  ∀ s t : State, step s = .next t →
    (s.tfValid = false → t.tfValid = true →
      s.pins.rst = false ∧ s.atCommit = true ∧ (s.seqOp = .opT ∨ s.seqOp = .opTp)) ∧
    (s.pValid = false → t.pValid = true →
      s.pins.rst = false ∧ s.atCommit = true ∧ (s.seqOp = .opP ∨ s.seqOp = .opTp)) ∧
    (s.tfValid = true → t.tfValid = false →
      s.pins.rst = true ∨
      (s.busy = false ∧ (s.presented = some .calClear ∨ ∃ j d, s.presented = some (.wrRawt j d)))) ∧
    (s.pValid = true → t.pValid = false →
      s.pins.rst = true ∨
      (s.busy = false ∧ (s.presented = some .calClear ∨ (∃ j d, s.presented = some (.wrRawt j d)) ∨
        ∃ j d, s.presented = some (.wrRawp j d))))

/-- R29 to R31, R39 to R41: the results and the outcome flags change only at a commit or a reset; a commit of OP_T
leaves PRESS and its flags, a commit of OP_P leaves T_FINE and TEMP. -/
def Obligations.ResultsChangeOnlyAtTheirCommit : Prop :=
  ∀ s t : State, step s = .next t → s.pins.rst = false →
    (¬ (s.atCommit = true ∧ (s.seqOp = .opT ∨ s.seqOp = .opTp)) → t.tFine = s.tFine ∧ t.temp = s.temp) ∧
    (¬ (s.atCommit = true ∧ (s.seqOp = .opP ∨ s.seqOp = .opTp)) →
      t.press = s.press ∧ t.divGuard = s.divGuard ∧ t.pSat = s.pSat ∧ t.negDiv = s.negDiv)

/-- The frame of the data writes through the window (R65, R72): the written byte reads back, and every other address
reads as before, but for the mask bytes (WR_CAL) and STATUS (raw writes). -/
def Obligations.DataWritesLeaveTheRestOfTheWindow : Prop :=
  ∀ (s t : State) (d : Byte), s.busy = false →
    (∀ i : Fin 24, s.calValid = false → exec (.wrCal i d) s = .next t →
      t.rd (0x88#8 + BitVec.ofNat 8 i.val) = d ∧
      ∀ a : Byte, a ≠ 0x88#8 + BitVec.ofNat 8 i.val → ¬ (0x10 ≤ a.toNat ∧ a.toNat ≤ 0x12) → t.rd a = s.rd a) ∧
    (∀ j : Fin 3, exec (.wrRawp j d) s = .next t →
      t.rd (0xF7#8 + BitVec.ofNat 8 j.val) = d ∧
      ∀ a : Byte, a ≠ 0xF7#8 + BitVec.ofNat 8 j.val → a ≠ 0x01#8 → t.rd a = s.rd a) ∧
    (∀ j : Fin 3, exec (.wrRawt j d) s = .next t →
      t.rd (0xFA#8 + BitVec.ofNat 8 j.val) = d ∧
      ∀ a : Byte, a ≠ 0xFA#8 + BitVec.ofNat 8 j.val → a ≠ 0x01#8 → t.rd a = s.rd a)

/-- R73: repeating a transaction other than a COMP_* command leaves the state the first left, and repeating a commit
recomputes the same results. -/
def Obligations.RepeatedTransactionsAreIdempotent : Prop :=
  (∀ (i : Instr) (s t : State), isCompensation i = false → exec i s = .next t → exec i t = .next t) ∧
  (∀ (op : SeqOp) (s : State), commitOp op (commitOp op s) = commitOp op s)

/-- The control flow of the sequencer depends on no data (R188, R262, D29): two states that agree on everything a
transaction's acceptance depends on stay so, and BUSY is the same in both, edge for edge. -/
def Obligations.TimingIsIndependentOfTheData : Prop :=
  ∀ (n : Nat) (s s' t t' : State), SameControl s s' → run n s = .next t → run n s' = .next t' →
    SameControl t t' ∧ t.busy = t'.busy

/-- The busy window (R256, R258): until the count runs out the command stays in flight, and the results, the flags and
the operands stay as they were, whatever the host presents without a reset. -/
def Obligations.CommandInFlightKeepsResultsUntilItsCommit : Prop :=
  ∀ (k : Nat) (s : State), s.busy = true → k < s.seqCnt.toNat → s.noReset k →
    ∃ t, run k s = .next t ∧ t.seqOp = s.seqOp ∧ t.seqCnt.toNat + k = s.seqCnt.toNat ∧
      SameResults t s ∧ SameOperands t s

/-- R45, R196: at the end of its count the command commits what its operands gave when it was issued, whatever the host
presented in between without a reset, and BUSY falls. -/
def Obligations.CommandCommitsWhatItsOperandsGave : Prop :=
  ∀ s : State, s.busy = true → 0 < s.seqCnt.toNat → s.noReset s.seqCnt.toNat →
    ∃ t, run s.seqCnt.toNat s = .next t ∧ t.seqOp = .idle ∧ t.seqCnt = 0#9 ∧
      SameResults t (commitOp s.seqOp s) ∧ SameOperands t s

/-- R262: an accepted compensation command, issued at the first of these edges with latency L: the L edges after it see
BUSY = 1, and the next one is the first to see BUSY = 0, whatever the data and the other transactions. -/
def Obligations.CommandIsBusyForExactlyItsLatency : Prop :=
  ∀ (s : State) (i : Instr), isCompensation i = true → s.presented = some i → errorOf i s = none →
    s.noReset (busyCycles i s + 1) →
    (∀ k, 1 ≤ k → k ≤ busyCycles i s → ∃ t, run k s = .next t ∧ t.busy = true) ∧
    (∃ t, run (busyCycles i s + 1) s = .next t ∧ t.busy = false)

/-- The corner case of R183: COMP_TP leaves the state that COMP_T followed by COMP_P leaves, with no write between. -/
def Obligations.CompTpEqualsCompTThenCompP : Prop :=
  ∀ s : State, s.busy = false → s.calValid = true → s.inputs = [] →
    ∃ t,
      run (1 + (s.latT.cycles + s.latP.cycles))
        ((s.presentIdle (s.latT.cycles + s.latP.cycles)).present [asmCmd codeCompTp]) = .next t ∧
      run (1 + s.latT.cycles + (1 + s.latP.cycles))
        ((((s.presentIdle s.latP.cycles).present [asmCmd codeCompP]).presentIdle s.latT.cycles).present
          [asmCmd codeCompT]) = .next t

/-- R100, R151, R254: `calload` on an idle block without a valid set loads the twelve words, commits them, and changes
nothing else. -/
def Obligations.CalloadLoadsAndCommitsTheSet : Prop :=
  ∀ (s : State) (ws : Vector Half 12), s.busy = false → s.calValid = false →
    ∃ t, run 25 (s.present (asmCalload ws)) = .next t ∧
      t = { s with calByte := t.calByte, calMask := 0xFFFFFF#24, calValid := true, rdata := 0x00#8 } ∧
      ∀ k : Fin 12, t.calWord k = ws[k]

/-- R100, R43: `wrraw_t` and `wrraw_p` on an idle block set the sample they name and leave the other. -/
def Obligations.WrrawSetsTheSample : Prop :=
  ∀ (s : State) (m l x : Byte), s.busy = false →
    (∃ t, run 3 (s.present (asmWrrawT m l x)) = .next t ∧
      t.adcT = m.toNat * 4096 + l.toNat * 16 + x.toNat / 16 ∧ t.adcP = s.adcP ∧
      t.tfValid = false ∧ t.pValid = false) ∧
    (∃ t, run 3 (s.present (asmWrrawP m l x)) = .next t ∧
      t.adcP = m.toNat * 4096 + l.toNat * 16 + x.toNat / 16 ∧ t.adcT = s.adcT ∧
      t.tfValid = s.tfValid ∧ t.pValid = false)

/-- R257: with a command in flight, a `poll` that reads STATUS once more than the cycles left ends on a byte with bit 0
clear, and every read before it has bit 0 set. -/
def Obligations.PollEndsWhenTheCommandCommits : Prop :=
  ∀ s : State, s.busy = true → 0 < s.seqCnt.toNat →
    (∃ t, run (s.seqCnt.toNat + 1) (s.present (asmPoll (s.seqCnt.toNat + 1))) = .next t ∧
      t.rdata.getLsbD 0 = false ∧ t.busy = false) ∧
    (∀ k, 1 ≤ k → k ≤ s.seqCnt.toNat →
      ∃ t, run k (s.present (asmPoll (s.seqCnt.toNat + 1))) = .next t ∧ t.rdata.getLsbD 0 = true)
end

