-- ==== Sys2Proof/Laws/Arith.lean ====
section
/-! SUPPORT. The shifts as divisions by numerals, and the domains of the operands (42_compensation.md R170): the lemmas
that take arithmetic goals to `omega`. -/

namespace Sys2Proof.Machine

theorem shl_eq (a : Int) (n : Nat) : shl a n = a * 2 ^ n := by
  simp [shl, Nat.pow_eq]

theorem asr_eq (a : Int) (n : Nat) : asr a n = a / 2 ^ n := by
  simp [asr, Nat.pow_eq]

theorem tdiv_eq (a b : Int) : tdiv a b = Int.tdiv a b := rfl

/-- A floor shift is between two bounds as soon as its argument is. -/
theorem asr_bounds {a lo hi : Int} (n : Nat) (h1 : lo * 2 ^ n ≤ a) (h2 : a < (hi + 1) * 2 ^ n) :
    lo ≤ asr a n ∧ asr a n ≤ hi := by
  rw [asr_eq]
  have hpos : (0 : Int) < 2 ^ n := by positivity
  exact ⟨(Int.le_ediv_iff_mul_le hpos).2 h1, Int.lt_add_one_iff.1 ((Int.ediv_lt_iff_lt_mul hpos).2 h2)⟩

/-- The product of two bounded integers. -/
theorem abs_mul_bound {a b A B : Int} (ha : |a| ≤ A) (hb : |b| ≤ B) : |a * b| ≤ A * B := by
  rw [abs_mul]
  exact mul_le_mul ha hb (abs_nonneg b) (le_trans (abs_nonneg a) ha)

/-- `enc_32` loses nothing on a value of 32 signed bits (00_scope.md R9, R185). -/
theorem sext_enc32 {x : Int} (h1 : -2147483648 ≤ x) (h2 : x ≤ 2147483647) : sext (enc32 x) = x := by
  unfold sext enc32
  rw [BitVec.toInt_ofInt]
  exact Int.bmod_eq_of_le (by norm_num; omega) (by norm_num; omega)

/-- A sample is a 20-bit number, and its bytes sit in disjoint bits (10_state.md R43). -/
theorem assembleAdc_eq (m l x : Byte) :
    assembleAdc m l x = (m.toNat * 4096 + l.toNat * 16 + x.toNat / 16 : Nat) := by
  unfold assembleAdc
  have hm := m.isLt
  have hl := l.isLt
  have hx := x.isLt
  congr 1
  have h1 : l.toNat <<< 4 ||| x.toNat >>> 4 = l.toNat <<< 4 + x.toNat >>> 4 := by
    rw [Nat.shiftLeft_add_eq_or_of_lt]
    rw [Nat.shiftRight_eq_div_pow]; omega
  have h2 : m.toNat <<< 12 ||| (l.toNat <<< 4 ||| x.toNat >>> 4)
      = m.toNat <<< 12 + (l.toNat <<< 4 ||| x.toNat >>> 4) := by
    rw [Nat.shiftLeft_add_eq_or_of_lt]
    rw [h1, Nat.shiftRight_eq_div_pow, Nat.shiftLeft_eq]; omega
  rw [Nat.or_assoc, h2, h1, Nat.shiftLeft_eq, Nat.shiftLeft_eq, Nat.shiftRight_eq_div_pow]
  omega

theorem assembleAdc_range (m l x : Byte) : AdcInRange (assembleAdc m l x) := by
  rw [assembleAdc_eq]
  have hm := m.isLt
  have hl := l.isLt
  have hx := x.isLt
  constructor <;> omega

theorem adcT_range (s : State) : AdcInRange s.adcT := assembleAdc_range _ _ _

theorem adcP_range (s : State) : AdcInRange s.adcP := assembleAdc_range _ _ _

/-- The constants other than dig_T1 and dig_P1 are 16-bit signed (10_state.md R35). -/
theorem calConst_signed (s : State) (k : Fin 12) (h : ¬ (k.val = 0 ∨ k.val = 3)) :
    -32768 ≤ s.calConst k ∧ s.calConst k ≤ 32767 := by
  unfold State.calConst sext
  rw [if_neg h]
  have h1 := BitVec.le_toInt (s.calWord k)
  have h2 := BitVec.toInt_lt (x := s.calWord k)
  norm_num at h1 h2
  omega

/-- dig_T1 and dig_P1 are 16-bit unsigned (R35). -/
theorem calConst_unsigned (s : State) (k : Fin 12) (h : k.val = 0 ∨ k.val = 3) :
    0 ≤ s.calConst k ∧ s.calConst k ≤ 65535 := by
  unfold State.calConst zext
  rw [if_pos h]
  have h1 := (s.calWord k).isLt
  omega

theorem cal_inRange (s : State) : s.cal.InRange where
  t1 := calConst_unsigned s 0 (by decide)
  t2 := calConst_signed s 1 (by decide)
  t3 := calConst_signed s 2 (by decide)
  p1 := calConst_unsigned s 3 (by decide)
  p2 := calConst_signed s 4 (by decide)
  p3 := calConst_signed s 5 (by decide)
  p4 := calConst_signed s 6 (by decide)
  p5 := calConst_signed s 7 (by decide)
  p6 := calConst_signed s 8 (by decide)
  p7 := calConst_signed s 9 (by decide)
  p8 := calConst_signed s 10 (by decide)
  p9 := calConst_signed s 11 (by decide)

end Sys2Proof.Machine
end

