-- ==== Sys2Proof/Laws/State.lean ====
section
/-! SUPPORT. What each update does to each field of State: one lemma a field, so that no proof unfolds a record update. -/

namespace Sys2Proof.Machine

@[simp] theorem raiseError_calByte (c : ErrCode) (s : State) : (raiseError c s).calByte = s.calByte := rfl
@[simp] theorem raiseError_calMask (c : ErrCode) (s : State) : (raiseError c s).calMask = s.calMask := rfl
@[simp] theorem raiseError_raw (c : ErrCode) (s : State) : (raiseError c s).raw = s.raw := rfl
@[simp] theorem raiseError_tFine (c : ErrCode) (s : State) : (raiseError c s).tFine = s.tFine := rfl
@[simp] theorem raiseError_temp (c : ErrCode) (s : State) : (raiseError c s).temp = s.temp := rfl
@[simp] theorem raiseError_press (c : ErrCode) (s : State) : (raiseError c s).press = s.press := rfl
@[simp] theorem raiseError_calValid (c : ErrCode) (s : State) : (raiseError c s).calValid = s.calValid := rfl
@[simp] theorem raiseError_tfValid (c : ErrCode) (s : State) : (raiseError c s).tfValid = s.tfValid := rfl
@[simp] theorem raiseError_pValid (c : ErrCode) (s : State) : (raiseError c s).pValid = s.pValid := rfl
@[simp] theorem raiseError_divGuard (c : ErrCode) (s : State) : (raiseError c s).divGuard = s.divGuard := rfl
@[simp] theorem raiseError_pSat (c : ErrCode) (s : State) : (raiseError c s).pSat = s.pSat := rfl
@[simp] theorem raiseError_negDiv (c : ErrCode) (s : State) : (raiseError c s).negDiv = s.negDiv := rfl
@[simp] theorem raiseError_err (c : ErrCode) (s : State) : (raiseError c s).err = (if s.err = .none then c else s.err) := rfl
@[simp] theorem raiseError_seqOp (c : ErrCode) (s : State) : (raiseError c s).seqOp = s.seqOp := rfl
@[simp] theorem raiseError_seqCnt (c : ErrCode) (s : State) : (raiseError c s).seqCnt = s.seqCnt := rfl
@[simp] theorem raiseError_inputs (c : ErrCode) (s : State) : (raiseError c s).inputs = s.inputs := rfl
@[simp] theorem raiseError_rdata (c : ErrCode) (s : State) : (raiseError c s).rdata = s.rdata := rfl
@[simp] theorem raiseError_latT (c : ErrCode) (s : State) : (raiseError c s).latT = s.latT := rfl
@[simp] theorem raiseError_latP (c : ErrCode) (s : State) : (raiseError c s).latP = s.latP := rfl

@[simp] theorem clearError_calByte (s : State) : (clearError s).calByte = s.calByte := rfl
@[simp] theorem clearError_calMask (s : State) : (clearError s).calMask = s.calMask := rfl
@[simp] theorem clearError_raw (s : State) : (clearError s).raw = s.raw := rfl
@[simp] theorem clearError_tFine (s : State) : (clearError s).tFine = s.tFine := rfl
@[simp] theorem clearError_temp (s : State) : (clearError s).temp = s.temp := rfl
@[simp] theorem clearError_press (s : State) : (clearError s).press = s.press := rfl
@[simp] theorem clearError_calValid (s : State) : (clearError s).calValid = s.calValid := rfl
@[simp] theorem clearError_tfValid (s : State) : (clearError s).tfValid = s.tfValid := rfl
@[simp] theorem clearError_pValid (s : State) : (clearError s).pValid = s.pValid := rfl
@[simp] theorem clearError_divGuard (s : State) : (clearError s).divGuard = s.divGuard := rfl
@[simp] theorem clearError_pSat (s : State) : (clearError s).pSat = s.pSat := rfl
@[simp] theorem clearError_negDiv (s : State) : (clearError s).negDiv = s.negDiv := rfl
@[simp] theorem clearError_err (s : State) : (clearError s).err = .none := rfl
@[simp] theorem clearError_seqOp (s : State) : (clearError s).seqOp = s.seqOp := rfl
@[simp] theorem clearError_seqCnt (s : State) : (clearError s).seqCnt = s.seqCnt := rfl
@[simp] theorem clearError_inputs (s : State) : (clearError s).inputs = s.inputs := rfl
@[simp] theorem clearError_rdata (s : State) : (clearError s).rdata = s.rdata := rfl
@[simp] theorem clearError_latT (s : State) : (clearError s).latT = s.latT := rfl
@[simp] theorem clearError_latP (s : State) : (clearError s).latP = s.latP := rfl

@[simp] theorem driveRdata_calByte (b : Byte) (s : State) : (driveRdata b s).calByte = s.calByte := rfl
@[simp] theorem driveRdata_calMask (b : Byte) (s : State) : (driveRdata b s).calMask = s.calMask := rfl
@[simp] theorem driveRdata_raw (b : Byte) (s : State) : (driveRdata b s).raw = s.raw := rfl
@[simp] theorem driveRdata_tFine (b : Byte) (s : State) : (driveRdata b s).tFine = s.tFine := rfl
@[simp] theorem driveRdata_temp (b : Byte) (s : State) : (driveRdata b s).temp = s.temp := rfl
@[simp] theorem driveRdata_press (b : Byte) (s : State) : (driveRdata b s).press = s.press := rfl
@[simp] theorem driveRdata_calValid (b : Byte) (s : State) : (driveRdata b s).calValid = s.calValid := rfl
@[simp] theorem driveRdata_tfValid (b : Byte) (s : State) : (driveRdata b s).tfValid = s.tfValid := rfl
@[simp] theorem driveRdata_pValid (b : Byte) (s : State) : (driveRdata b s).pValid = s.pValid := rfl
@[simp] theorem driveRdata_divGuard (b : Byte) (s : State) : (driveRdata b s).divGuard = s.divGuard := rfl
@[simp] theorem driveRdata_pSat (b : Byte) (s : State) : (driveRdata b s).pSat = s.pSat := rfl
@[simp] theorem driveRdata_negDiv (b : Byte) (s : State) : (driveRdata b s).negDiv = s.negDiv := rfl
@[simp] theorem driveRdata_err (b : Byte) (s : State) : (driveRdata b s).err = s.err := rfl
@[simp] theorem driveRdata_seqOp (b : Byte) (s : State) : (driveRdata b s).seqOp = s.seqOp := rfl
@[simp] theorem driveRdata_seqCnt (b : Byte) (s : State) : (driveRdata b s).seqCnt = s.seqCnt := rfl
@[simp] theorem driveRdata_inputs (b : Byte) (s : State) : (driveRdata b s).inputs = s.inputs := rfl
@[simp] theorem driveRdata_rdata (b : Byte) (s : State) : (driveRdata b s).rdata = b := rfl
@[simp] theorem driveRdata_latT (b : Byte) (s : State) : (driveRdata b s).latT = s.latT := rfl
@[simp] theorem driveRdata_latP (b : Byte) (s : State) : (driveRdata b s).latP = s.latP := rfl

@[simp] theorem writeCal_calByte (i : Fin 24) (d : Byte) (s : State) : (writeCal i d s).calByte = s.calByte.set i.val d := rfl
@[simp] theorem writeCal_calMask (i : Fin 24) (d : Byte) (s : State) : (writeCal i d s).calMask = s.calMask ||| maskBit i := rfl
@[simp] theorem writeCal_raw (i : Fin 24) (d : Byte) (s : State) : (writeCal i d s).raw = s.raw := rfl
@[simp] theorem writeCal_tFine (i : Fin 24) (d : Byte) (s : State) : (writeCal i d s).tFine = s.tFine := rfl
@[simp] theorem writeCal_temp (i : Fin 24) (d : Byte) (s : State) : (writeCal i d s).temp = s.temp := rfl
@[simp] theorem writeCal_press (i : Fin 24) (d : Byte) (s : State) : (writeCal i d s).press = s.press := rfl
@[simp] theorem writeCal_calValid (i : Fin 24) (d : Byte) (s : State) : (writeCal i d s).calValid = s.calValid := rfl
@[simp] theorem writeCal_tfValid (i : Fin 24) (d : Byte) (s : State) : (writeCal i d s).tfValid = s.tfValid := rfl
@[simp] theorem writeCal_pValid (i : Fin 24) (d : Byte) (s : State) : (writeCal i d s).pValid = s.pValid := rfl
@[simp] theorem writeCal_divGuard (i : Fin 24) (d : Byte) (s : State) : (writeCal i d s).divGuard = s.divGuard := rfl
@[simp] theorem writeCal_pSat (i : Fin 24) (d : Byte) (s : State) : (writeCal i d s).pSat = s.pSat := rfl
@[simp] theorem writeCal_negDiv (i : Fin 24) (d : Byte) (s : State) : (writeCal i d s).negDiv = s.negDiv := rfl
@[simp] theorem writeCal_err (i : Fin 24) (d : Byte) (s : State) : (writeCal i d s).err = s.err := rfl
@[simp] theorem writeCal_seqOp (i : Fin 24) (d : Byte) (s : State) : (writeCal i d s).seqOp = s.seqOp := rfl
@[simp] theorem writeCal_seqCnt (i : Fin 24) (d : Byte) (s : State) : (writeCal i d s).seqCnt = s.seqCnt := rfl
@[simp] theorem writeCal_inputs (i : Fin 24) (d : Byte) (s : State) : (writeCal i d s).inputs = s.inputs := rfl
@[simp] theorem writeCal_rdata (i : Fin 24) (d : Byte) (s : State) : (writeCal i d s).rdata = s.rdata := rfl
@[simp] theorem writeCal_latT (i : Fin 24) (d : Byte) (s : State) : (writeCal i d s).latT = s.latT := rfl
@[simp] theorem writeCal_latP (i : Fin 24) (d : Byte) (s : State) : (writeCal i d s).latP = s.latP := rfl

@[simp] theorem writeRawP_calByte (j : Fin 3) (d : Byte) (s : State) : (writeRawP j d s).calByte = s.calByte := rfl
@[simp] theorem writeRawP_calMask (j : Fin 3) (d : Byte) (s : State) : (writeRawP j d s).calMask = s.calMask := rfl
@[simp] theorem writeRawP_raw (j : Fin 3) (d : Byte) (s : State) : (writeRawP j d s).raw = s.raw.set j.val d := rfl
@[simp] theorem writeRawP_tFine (j : Fin 3) (d : Byte) (s : State) : (writeRawP j d s).tFine = s.tFine := rfl
@[simp] theorem writeRawP_temp (j : Fin 3) (d : Byte) (s : State) : (writeRawP j d s).temp = s.temp := rfl
@[simp] theorem writeRawP_press (j : Fin 3) (d : Byte) (s : State) : (writeRawP j d s).press = s.press := rfl
@[simp] theorem writeRawP_calValid (j : Fin 3) (d : Byte) (s : State) : (writeRawP j d s).calValid = s.calValid := rfl
@[simp] theorem writeRawP_tfValid (j : Fin 3) (d : Byte) (s : State) : (writeRawP j d s).tfValid = s.tfValid := rfl
@[simp] theorem writeRawP_pValid (j : Fin 3) (d : Byte) (s : State) : (writeRawP j d s).pValid = false := rfl
@[simp] theorem writeRawP_divGuard (j : Fin 3) (d : Byte) (s : State) : (writeRawP j d s).divGuard = s.divGuard := rfl
@[simp] theorem writeRawP_pSat (j : Fin 3) (d : Byte) (s : State) : (writeRawP j d s).pSat = s.pSat := rfl
@[simp] theorem writeRawP_negDiv (j : Fin 3) (d : Byte) (s : State) : (writeRawP j d s).negDiv = s.negDiv := rfl
@[simp] theorem writeRawP_err (j : Fin 3) (d : Byte) (s : State) : (writeRawP j d s).err = s.err := rfl
@[simp] theorem writeRawP_seqOp (j : Fin 3) (d : Byte) (s : State) : (writeRawP j d s).seqOp = s.seqOp := rfl
@[simp] theorem writeRawP_seqCnt (j : Fin 3) (d : Byte) (s : State) : (writeRawP j d s).seqCnt = s.seqCnt := rfl
@[simp] theorem writeRawP_inputs (j : Fin 3) (d : Byte) (s : State) : (writeRawP j d s).inputs = s.inputs := rfl
@[simp] theorem writeRawP_rdata (j : Fin 3) (d : Byte) (s : State) : (writeRawP j d s).rdata = s.rdata := rfl
@[simp] theorem writeRawP_latT (j : Fin 3) (d : Byte) (s : State) : (writeRawP j d s).latT = s.latT := rfl
@[simp] theorem writeRawP_latP (j : Fin 3) (d : Byte) (s : State) : (writeRawP j d s).latP = s.latP := rfl

@[simp] theorem writeRawT_calByte (j : Fin 3) (d : Byte) (s : State) : (writeRawT j d s).calByte = s.calByte := rfl
@[simp] theorem writeRawT_calMask (j : Fin 3) (d : Byte) (s : State) : (writeRawT j d s).calMask = s.calMask := rfl
@[simp] theorem writeRawT_raw (j : Fin 3) (d : Byte) (s : State) : (writeRawT j d s).raw = s.raw.set (3 + j.val) d := rfl
@[simp] theorem writeRawT_tFine (j : Fin 3) (d : Byte) (s : State) : (writeRawT j d s).tFine = s.tFine := rfl
@[simp] theorem writeRawT_temp (j : Fin 3) (d : Byte) (s : State) : (writeRawT j d s).temp = s.temp := rfl
@[simp] theorem writeRawT_press (j : Fin 3) (d : Byte) (s : State) : (writeRawT j d s).press = s.press := rfl
@[simp] theorem writeRawT_calValid (j : Fin 3) (d : Byte) (s : State) : (writeRawT j d s).calValid = s.calValid := rfl
@[simp] theorem writeRawT_tfValid (j : Fin 3) (d : Byte) (s : State) : (writeRawT j d s).tfValid = false := rfl
@[simp] theorem writeRawT_pValid (j : Fin 3) (d : Byte) (s : State) : (writeRawT j d s).pValid = false := rfl
@[simp] theorem writeRawT_divGuard (j : Fin 3) (d : Byte) (s : State) : (writeRawT j d s).divGuard = s.divGuard := rfl
@[simp] theorem writeRawT_pSat (j : Fin 3) (d : Byte) (s : State) : (writeRawT j d s).pSat = s.pSat := rfl
@[simp] theorem writeRawT_negDiv (j : Fin 3) (d : Byte) (s : State) : (writeRawT j d s).negDiv = s.negDiv := rfl
@[simp] theorem writeRawT_err (j : Fin 3) (d : Byte) (s : State) : (writeRawT j d s).err = s.err := rfl
@[simp] theorem writeRawT_seqOp (j : Fin 3) (d : Byte) (s : State) : (writeRawT j d s).seqOp = s.seqOp := rfl
@[simp] theorem writeRawT_seqCnt (j : Fin 3) (d : Byte) (s : State) : (writeRawT j d s).seqCnt = s.seqCnt := rfl
@[simp] theorem writeRawT_inputs (j : Fin 3) (d : Byte) (s : State) : (writeRawT j d s).inputs = s.inputs := rfl
@[simp] theorem writeRawT_rdata (j : Fin 3) (d : Byte) (s : State) : (writeRawT j d s).rdata = s.rdata := rfl
@[simp] theorem writeRawT_latT (j : Fin 3) (d : Byte) (s : State) : (writeRawT j d s).latT = s.latT := rfl
@[simp] theorem writeRawT_latP (j : Fin 3) (d : Byte) (s : State) : (writeRawT j d s).latP = s.latP := rfl

@[simp] theorem setCalValid_calByte (s : State) : (setCalValid s).calByte = s.calByte := rfl
@[simp] theorem setCalValid_calMask (s : State) : (setCalValid s).calMask = s.calMask := rfl
@[simp] theorem setCalValid_raw (s : State) : (setCalValid s).raw = s.raw := rfl
@[simp] theorem setCalValid_tFine (s : State) : (setCalValid s).tFine = s.tFine := rfl
@[simp] theorem setCalValid_temp (s : State) : (setCalValid s).temp = s.temp := rfl
@[simp] theorem setCalValid_press (s : State) : (setCalValid s).press = s.press := rfl
@[simp] theorem setCalValid_calValid (s : State) : (setCalValid s).calValid = true := rfl
@[simp] theorem setCalValid_tfValid (s : State) : (setCalValid s).tfValid = s.tfValid := rfl
@[simp] theorem setCalValid_pValid (s : State) : (setCalValid s).pValid = s.pValid := rfl
@[simp] theorem setCalValid_divGuard (s : State) : (setCalValid s).divGuard = s.divGuard := rfl
@[simp] theorem setCalValid_pSat (s : State) : (setCalValid s).pSat = s.pSat := rfl
@[simp] theorem setCalValid_negDiv (s : State) : (setCalValid s).negDiv = s.negDiv := rfl
@[simp] theorem setCalValid_err (s : State) : (setCalValid s).err = s.err := rfl
@[simp] theorem setCalValid_seqOp (s : State) : (setCalValid s).seqOp = s.seqOp := rfl
@[simp] theorem setCalValid_seqCnt (s : State) : (setCalValid s).seqCnt = s.seqCnt := rfl
@[simp] theorem setCalValid_inputs (s : State) : (setCalValid s).inputs = s.inputs := rfl
@[simp] theorem setCalValid_rdata (s : State) : (setCalValid s).rdata = s.rdata := rfl
@[simp] theorem setCalValid_latT (s : State) : (setCalValid s).latT = s.latT := rfl
@[simp] theorem setCalValid_latP (s : State) : (setCalValid s).latP = s.latP := rfl

@[simp] theorem clearCal_calByte (s : State) : (clearCal s).calByte = s.calByte := rfl
@[simp] theorem clearCal_calMask (s : State) : (clearCal s).calMask = 0x000000#24 := rfl
@[simp] theorem clearCal_raw (s : State) : (clearCal s).raw = s.raw := rfl
@[simp] theorem clearCal_tFine (s : State) : (clearCal s).tFine = s.tFine := rfl
@[simp] theorem clearCal_temp (s : State) : (clearCal s).temp = s.temp := rfl
@[simp] theorem clearCal_press (s : State) : (clearCal s).press = s.press := rfl
@[simp] theorem clearCal_calValid (s : State) : (clearCal s).calValid = false := rfl
@[simp] theorem clearCal_tfValid (s : State) : (clearCal s).tfValid = false := rfl
@[simp] theorem clearCal_pValid (s : State) : (clearCal s).pValid = false := rfl
@[simp] theorem clearCal_divGuard (s : State) : (clearCal s).divGuard = s.divGuard := rfl
@[simp] theorem clearCal_pSat (s : State) : (clearCal s).pSat = s.pSat := rfl
@[simp] theorem clearCal_negDiv (s : State) : (clearCal s).negDiv = s.negDiv := rfl
@[simp] theorem clearCal_err (s : State) : (clearCal s).err = s.err := rfl
@[simp] theorem clearCal_seqOp (s : State) : (clearCal s).seqOp = s.seqOp := rfl
@[simp] theorem clearCal_seqCnt (s : State) : (clearCal s).seqCnt = s.seqCnt := rfl
@[simp] theorem clearCal_inputs (s : State) : (clearCal s).inputs = s.inputs := rfl
@[simp] theorem clearCal_rdata (s : State) : (clearCal s).rdata = s.rdata := rfl
@[simp] theorem clearCal_latT (s : State) : (clearCal s).latT = s.latT := rfl
@[simp] theorem clearCal_latP (s : State) : (clearCal s).latP = s.latP := rfl

@[simp] theorem startCommand_calByte (op : SeqOp) (n : Nat) (s : State) : (startCommand op n s).calByte = s.calByte := rfl
@[simp] theorem startCommand_calMask (op : SeqOp) (n : Nat) (s : State) : (startCommand op n s).calMask = s.calMask := rfl
@[simp] theorem startCommand_raw (op : SeqOp) (n : Nat) (s : State) : (startCommand op n s).raw = s.raw := rfl
@[simp] theorem startCommand_tFine (op : SeqOp) (n : Nat) (s : State) : (startCommand op n s).tFine = s.tFine := rfl
@[simp] theorem startCommand_temp (op : SeqOp) (n : Nat) (s : State) : (startCommand op n s).temp = s.temp := rfl
@[simp] theorem startCommand_press (op : SeqOp) (n : Nat) (s : State) : (startCommand op n s).press = s.press := rfl
@[simp] theorem startCommand_calValid (op : SeqOp) (n : Nat) (s : State) : (startCommand op n s).calValid = s.calValid := rfl
@[simp] theorem startCommand_tfValid (op : SeqOp) (n : Nat) (s : State) : (startCommand op n s).tfValid = s.tfValid := rfl
@[simp] theorem startCommand_pValid (op : SeqOp) (n : Nat) (s : State) : (startCommand op n s).pValid = s.pValid := rfl
@[simp] theorem startCommand_divGuard (op : SeqOp) (n : Nat) (s : State) : (startCommand op n s).divGuard = s.divGuard := rfl
@[simp] theorem startCommand_pSat (op : SeqOp) (n : Nat) (s : State) : (startCommand op n s).pSat = s.pSat := rfl
@[simp] theorem startCommand_negDiv (op : SeqOp) (n : Nat) (s : State) : (startCommand op n s).negDiv = s.negDiv := rfl
@[simp] theorem startCommand_err (op : SeqOp) (n : Nat) (s : State) : (startCommand op n s).err = s.err := rfl
@[simp] theorem startCommand_seqOp (op : SeqOp) (n : Nat) (s : State) : (startCommand op n s).seqOp = op := rfl
@[simp] theorem startCommand_seqCnt (op : SeqOp) (n : Nat) (s : State) : (startCommand op n s).seqCnt = BitVec.ofNat 9 n := rfl
@[simp] theorem startCommand_inputs (op : SeqOp) (n : Nat) (s : State) : (startCommand op n s).inputs = s.inputs := rfl
@[simp] theorem startCommand_rdata (op : SeqOp) (n : Nat) (s : State) : (startCommand op n s).rdata = s.rdata := rfl
@[simp] theorem startCommand_latT (op : SeqOp) (n : Nat) (s : State) : (startCommand op n s).latT = s.latT := rfl
@[simp] theorem startCommand_latP (op : SeqOp) (n : Nat) (s : State) : (startCommand op n s).latP = s.latP := rfl

@[simp] theorem toIdle_calByte (s : State) : (toIdle s).calByte = s.calByte := rfl
@[simp] theorem toIdle_calMask (s : State) : (toIdle s).calMask = s.calMask := rfl
@[simp] theorem toIdle_raw (s : State) : (toIdle s).raw = s.raw := rfl
@[simp] theorem toIdle_tFine (s : State) : (toIdle s).tFine = s.tFine := rfl
@[simp] theorem toIdle_temp (s : State) : (toIdle s).temp = s.temp := rfl
@[simp] theorem toIdle_press (s : State) : (toIdle s).press = s.press := rfl
@[simp] theorem toIdle_calValid (s : State) : (toIdle s).calValid = s.calValid := rfl
@[simp] theorem toIdle_tfValid (s : State) : (toIdle s).tfValid = s.tfValid := rfl
@[simp] theorem toIdle_pValid (s : State) : (toIdle s).pValid = s.pValid := rfl
@[simp] theorem toIdle_divGuard (s : State) : (toIdle s).divGuard = s.divGuard := rfl
@[simp] theorem toIdle_pSat (s : State) : (toIdle s).pSat = s.pSat := rfl
@[simp] theorem toIdle_negDiv (s : State) : (toIdle s).negDiv = s.negDiv := rfl
@[simp] theorem toIdle_err (s : State) : (toIdle s).err = s.err := rfl
@[simp] theorem toIdle_seqOp (s : State) : (toIdle s).seqOp = .idle := rfl
@[simp] theorem toIdle_seqCnt (s : State) : (toIdle s).seqCnt = 0#9 := rfl
@[simp] theorem toIdle_inputs (s : State) : (toIdle s).inputs = s.inputs := rfl
@[simp] theorem toIdle_rdata (s : State) : (toIdle s).rdata = s.rdata := rfl
@[simp] theorem toIdle_latT (s : State) : (toIdle s).latT = s.latT := rfl
@[simp] theorem toIdle_latP (s : State) : (toIdle s).latP = s.latP := rfl

@[simp] theorem resetEdge_calByte (s : State) : (resetEdge s).calByte = Vector.replicate 24 0x00#8 := rfl
@[simp] theorem resetEdge_calMask (s : State) : (resetEdge s).calMask = 0x000000#24 := rfl
@[simp] theorem resetEdge_raw (s : State) : (resetEdge s).raw = Vector.replicate 6 0x00#8 := rfl
@[simp] theorem resetEdge_tFine (s : State) : (resetEdge s).tFine = 0x00000000#32 := rfl
@[simp] theorem resetEdge_temp (s : State) : (resetEdge s).temp = 0x00000000#32 := rfl
@[simp] theorem resetEdge_press (s : State) : (resetEdge s).press = 0x00000000#32 := rfl
@[simp] theorem resetEdge_calValid (s : State) : (resetEdge s).calValid = false := rfl
@[simp] theorem resetEdge_tfValid (s : State) : (resetEdge s).tfValid = false := rfl
@[simp] theorem resetEdge_pValid (s : State) : (resetEdge s).pValid = false := rfl
@[simp] theorem resetEdge_divGuard (s : State) : (resetEdge s).divGuard = false := rfl
@[simp] theorem resetEdge_pSat (s : State) : (resetEdge s).pSat = false := rfl
@[simp] theorem resetEdge_negDiv (s : State) : (resetEdge s).negDiv = false := rfl
@[simp] theorem resetEdge_err (s : State) : (resetEdge s).err = .none := rfl
@[simp] theorem resetEdge_seqOp (s : State) : (resetEdge s).seqOp = .idle := rfl
@[simp] theorem resetEdge_seqCnt (s : State) : (resetEdge s).seqCnt = 0#9 := rfl
@[simp] theorem resetEdge_inputs (s : State) : (resetEdge s).inputs = s.inputs := rfl
@[simp] theorem resetEdge_rdata (s : State) : (resetEdge s).rdata = 0x00#8 := rfl
@[simp] theorem resetEdge_latT (s : State) : (resetEdge s).latT = s.latT := rfl
@[simp] theorem resetEdge_latP (s : State) : (resetEdge s).latP = s.latP := rfl

@[simp] theorem takePins_calByte (s : State) : (State.takePins s).calByte = s.calByte := rfl
@[simp] theorem takePins_calMask (s : State) : (State.takePins s).calMask = s.calMask := rfl
@[simp] theorem takePins_raw (s : State) : (State.takePins s).raw = s.raw := rfl
@[simp] theorem takePins_tFine (s : State) : (State.takePins s).tFine = s.tFine := rfl
@[simp] theorem takePins_temp (s : State) : (State.takePins s).temp = s.temp := rfl
@[simp] theorem takePins_press (s : State) : (State.takePins s).press = s.press := rfl
@[simp] theorem takePins_calValid (s : State) : (State.takePins s).calValid = s.calValid := rfl
@[simp] theorem takePins_tfValid (s : State) : (State.takePins s).tfValid = s.tfValid := rfl
@[simp] theorem takePins_pValid (s : State) : (State.takePins s).pValid = s.pValid := rfl
@[simp] theorem takePins_divGuard (s : State) : (State.takePins s).divGuard = s.divGuard := rfl
@[simp] theorem takePins_pSat (s : State) : (State.takePins s).pSat = s.pSat := rfl
@[simp] theorem takePins_negDiv (s : State) : (State.takePins s).negDiv = s.negDiv := rfl
@[simp] theorem takePins_err (s : State) : (State.takePins s).err = s.err := rfl
@[simp] theorem takePins_seqOp (s : State) : (State.takePins s).seqOp = s.seqOp := rfl
@[simp] theorem takePins_seqCnt (s : State) : (State.takePins s).seqCnt = s.seqCnt := rfl
@[simp] theorem takePins_inputs (s : State) : (State.takePins s).inputs = s.inputs.tail := rfl
@[simp] theorem takePins_rdata (s : State) : (State.takePins s).rdata = 0x00#8 := rfl
@[simp] theorem takePins_latT (s : State) : (State.takePins s).latT = s.latT := rfl
@[simp] theorem takePins_latP (s : State) : (State.takePins s).latP = s.latP := rfl

@[simp] theorem markTemperature_calByte (s : State) : (State.markTemperature s).calByte = s.calByte := rfl
@[simp] theorem markTemperature_calMask (s : State) : (State.markTemperature s).calMask = s.calMask := rfl
@[simp] theorem markTemperature_raw (s : State) : (State.markTemperature s).raw = s.raw := rfl
@[simp] theorem markTemperature_tFine (s : State) : (State.markTemperature s).tFine = s.tFine := rfl
@[simp] theorem markTemperature_temp (s : State) : (State.markTemperature s).temp = s.temp := rfl
@[simp] theorem markTemperature_press (s : State) : (State.markTemperature s).press = s.press := rfl
@[simp] theorem markTemperature_calValid (s : State) : (State.markTemperature s).calValid = s.calValid := rfl
@[simp] theorem markTemperature_tfValid (s : State) : (State.markTemperature s).tfValid = true := rfl
@[simp] theorem markTemperature_pValid (s : State) : (State.markTemperature s).pValid = s.pValid := rfl
@[simp] theorem markTemperature_divGuard (s : State) : (State.markTemperature s).divGuard = s.divGuard := rfl
@[simp] theorem markTemperature_pSat (s : State) : (State.markTemperature s).pSat = s.pSat := rfl
@[simp] theorem markTemperature_negDiv (s : State) : (State.markTemperature s).negDiv = s.negDiv := rfl
@[simp] theorem markTemperature_err (s : State) : (State.markTemperature s).err = s.err := rfl
@[simp] theorem markTemperature_seqOp (s : State) : (State.markTemperature s).seqOp = s.seqOp := rfl
@[simp] theorem markTemperature_seqCnt (s : State) : (State.markTemperature s).seqCnt = s.seqCnt := rfl
@[simp] theorem markTemperature_inputs (s : State) : (State.markTemperature s).inputs = s.inputs := rfl
@[simp] theorem markTemperature_rdata (s : State) : (State.markTemperature s).rdata = s.rdata := rfl
@[simp] theorem markTemperature_latT (s : State) : (State.markTemperature s).latT = s.latT := rfl
@[simp] theorem markTemperature_latP (s : State) : (State.markTemperature s).latP = s.latP := rfl

@[simp] theorem markPressure_calByte (s : State) (g p n : Bool) : (State.markPressure s g p n).calByte = s.calByte := rfl
@[simp] theorem markPressure_calMask (s : State) (g p n : Bool) : (State.markPressure s g p n).calMask = s.calMask := rfl
@[simp] theorem markPressure_raw (s : State) (g p n : Bool) : (State.markPressure s g p n).raw = s.raw := rfl
@[simp] theorem markPressure_tFine (s : State) (g p n : Bool) : (State.markPressure s g p n).tFine = s.tFine := rfl
@[simp] theorem markPressure_temp (s : State) (g p n : Bool) : (State.markPressure s g p n).temp = s.temp := rfl
@[simp] theorem markPressure_press (s : State) (g p n : Bool) : (State.markPressure s g p n).press = s.press := rfl
@[simp] theorem markPressure_calValid (s : State) (g p n : Bool) : (State.markPressure s g p n).calValid = s.calValid := rfl
@[simp] theorem markPressure_tfValid (s : State) (g p n : Bool) : (State.markPressure s g p n).tfValid = s.tfValid := rfl
@[simp] theorem markPressure_pValid (s : State) (g p n : Bool) : (State.markPressure s g p n).pValid = true := rfl
@[simp] theorem markPressure_divGuard (s : State) (g p n : Bool) : (State.markPressure s g p n).divGuard = g := rfl
@[simp] theorem markPressure_pSat (s : State) (g p n : Bool) : (State.markPressure s g p n).pSat = p := rfl
@[simp] theorem markPressure_negDiv (s : State) (g p n : Bool) : (State.markPressure s g p n).negDiv = n := rfl
@[simp] theorem markPressure_err (s : State) (g p n : Bool) : (State.markPressure s g p n).err = s.err := rfl
@[simp] theorem markPressure_seqOp (s : State) (g p n : Bool) : (State.markPressure s g p n).seqOp = s.seqOp := rfl
@[simp] theorem markPressure_seqCnt (s : State) (g p n : Bool) : (State.markPressure s g p n).seqCnt = s.seqCnt := rfl
@[simp] theorem markPressure_inputs (s : State) (g p n : Bool) : (State.markPressure s g p n).inputs = s.inputs := rfl
@[simp] theorem markPressure_rdata (s : State) (g p n : Bool) : (State.markPressure s g p n).rdata = s.rdata := rfl
@[simp] theorem markPressure_latT (s : State) (g p n : Bool) : (State.markPressure s g p n).latT = s.latT := rfl
@[simp] theorem markPressure_latP (s : State) (g p n : Bool) : (State.markPressure s g p n).latP = s.latP := rfl

@[simp] theorem storeT_calByte (tf t : Int) (s : State) : (storeT tf t s).calByte = s.calByte := rfl
@[simp] theorem storeT_calMask (tf t : Int) (s : State) : (storeT tf t s).calMask = s.calMask := rfl
@[simp] theorem storeT_raw (tf t : Int) (s : State) : (storeT tf t s).raw = s.raw := rfl
@[simp] theorem storeT_tFine (tf t : Int) (s : State) : (storeT tf t s).tFine = enc32 tf := rfl
@[simp] theorem storeT_temp (tf t : Int) (s : State) : (storeT tf t s).temp = enc32 t := rfl
@[simp] theorem storeT_press (tf t : Int) (s : State) : (storeT tf t s).press = s.press := rfl
@[simp] theorem storeT_calValid (tf t : Int) (s : State) : (storeT tf t s).calValid = s.calValid := rfl
@[simp] theorem storeT_tfValid (tf t : Int) (s : State) : (storeT tf t s).tfValid = true := rfl
@[simp] theorem storeT_pValid (tf t : Int) (s : State) : (storeT tf t s).pValid = s.pValid := rfl
@[simp] theorem storeT_divGuard (tf t : Int) (s : State) : (storeT tf t s).divGuard = s.divGuard := rfl
@[simp] theorem storeT_pSat (tf t : Int) (s : State) : (storeT tf t s).pSat = s.pSat := rfl
@[simp] theorem storeT_negDiv (tf t : Int) (s : State) : (storeT tf t s).negDiv = s.negDiv := rfl
@[simp] theorem storeT_err (tf t : Int) (s : State) : (storeT tf t s).err = s.err := rfl
@[simp] theorem storeT_seqOp (tf t : Int) (s : State) : (storeT tf t s).seqOp = s.seqOp := rfl
@[simp] theorem storeT_seqCnt (tf t : Int) (s : State) : (storeT tf t s).seqCnt = s.seqCnt := rfl
@[simp] theorem storeT_inputs (tf t : Int) (s : State) : (storeT tf t s).inputs = s.inputs := rfl
@[simp] theorem storeT_rdata (tf t : Int) (s : State) : (storeT tf t s).rdata = s.rdata := rfl
@[simp] theorem storeT_latT (tf t : Int) (s : State) : (storeT tf t s).latT = s.latT := rfl
@[simp] theorem storeT_latP (tf t : Int) (s : State) : (storeT tf t s).latP = s.latP := rfl

@[simp] theorem reset_calByte : State.reset.calByte = Vector.replicate 24 0x00#8 := rfl
@[simp] theorem reset_calMask : State.reset.calMask = 0x000000#24 := rfl
@[simp] theorem reset_raw : State.reset.raw = Vector.replicate 6 0x00#8 := rfl
@[simp] theorem reset_tFine : State.reset.tFine = 0x00000000#32 := rfl
@[simp] theorem reset_temp : State.reset.temp = 0x00000000#32 := rfl
@[simp] theorem reset_press : State.reset.press = 0x00000000#32 := rfl
@[simp] theorem reset_calValid : State.reset.calValid = false := rfl
@[simp] theorem reset_tfValid : State.reset.tfValid = false := rfl
@[simp] theorem reset_pValid : State.reset.pValid = false := rfl
@[simp] theorem reset_divGuard : State.reset.divGuard = false := rfl
@[simp] theorem reset_pSat : State.reset.pSat = false := rfl
@[simp] theorem reset_negDiv : State.reset.negDiv = false := rfl
@[simp] theorem reset_err : State.reset.err = .none := rfl
@[simp] theorem reset_seqOp : State.reset.seqOp = .idle := rfl
@[simp] theorem reset_seqCnt : State.reset.seqCnt = 0#9 := rfl
@[simp] theorem reset_inputs : State.reset.inputs = [] := rfl
@[simp] theorem reset_rdata : State.reset.rdata = 0x00#8 := rfl
@[simp] theorem reset_latT : State.reset.latT = Config.latTDefault := rfl
@[simp] theorem reset_latP : State.reset.latP = Config.latPDefault := rfl

@[simp] theorem storeP_calByte (r : PressOutcome) (s : State) : (storeP r s).calByte = s.calByte := by cases r <;> rfl
@[simp] theorem storeP_calMask (r : PressOutcome) (s : State) : (storeP r s).calMask = s.calMask := by cases r <;> rfl
@[simp] theorem storeP_raw (r : PressOutcome) (s : State) : (storeP r s).raw = s.raw := by cases r <;> rfl
@[simp] theorem storeP_tFine (r : PressOutcome) (s : State) : (storeP r s).tFine = s.tFine := by cases r <;> rfl
@[simp] theorem storeP_temp (r : PressOutcome) (s : State) : (storeP r s).temp = s.temp := by cases r <;> rfl
@[simp] theorem storeP_guard_press (s : State) : (storeP .guard s).press = 0x00000000#32 := rfl
@[simp] theorem storeP_value_press (p : Int) (nd : Bool) (s : State) : (storeP (.value p nd) s).press = satPress p := rfl
@[simp] theorem storeP_calValid (r : PressOutcome) (s : State) : (storeP r s).calValid = s.calValid := by cases r <;> rfl
@[simp] theorem storeP_tfValid (r : PressOutcome) (s : State) : (storeP r s).tfValid = s.tfValid := by cases r <;> rfl
@[simp] theorem storeP_guard_pValid (s : State) : (storeP .guard s).pValid = true := rfl
@[simp] theorem storeP_value_pValid (p : Int) (nd : Bool) (s : State) : (storeP (.value p nd) s).pValid = true := rfl
@[simp] theorem storeP_guard_divGuard (s : State) : (storeP .guard s).divGuard = true := rfl
@[simp] theorem storeP_value_divGuard (p : Int) (nd : Bool) (s : State) : (storeP (.value p nd) s).divGuard = false := rfl
@[simp] theorem storeP_guard_pSat (s : State) : (storeP .guard s).pSat = false := rfl
@[simp] theorem storeP_value_pSat (p : Int) (nd : Bool) (s : State) : (storeP (.value p nd) s).pSat = pressSaturates p := rfl
@[simp] theorem storeP_guard_negDiv (s : State) : (storeP .guard s).negDiv = false := rfl
@[simp] theorem storeP_value_negDiv (p : Int) (nd : Bool) (s : State) : (storeP (.value p nd) s).negDiv = nd := rfl
@[simp] theorem storeP_err (r : PressOutcome) (s : State) : (storeP r s).err = s.err := by cases r <;> rfl
@[simp] theorem storeP_seqOp (r : PressOutcome) (s : State) : (storeP r s).seqOp = s.seqOp := by cases r <;> rfl
@[simp] theorem storeP_seqCnt (r : PressOutcome) (s : State) : (storeP r s).seqCnt = s.seqCnt := by cases r <;> rfl
@[simp] theorem storeP_inputs (r : PressOutcome) (s : State) : (storeP r s).inputs = s.inputs := by cases r <;> rfl
@[simp] theorem storeP_rdata (r : PressOutcome) (s : State) : (storeP r s).rdata = s.rdata := by cases r <;> rfl
@[simp] theorem storeP_latT (r : PressOutcome) (s : State) : (storeP r s).latT = s.latT := by cases r <;> rfl
@[simp] theorem storeP_latP (r : PressOutcome) (s : State) : (storeP r s).latP = s.latP := by cases r <;> rfl

end Sys2Proof.Machine
end

