-- ==== Sys2Proof/Laws/Ops.lean ====
section
/-! SUPPORT. What each shared operation can do, said once: the busy check, `raise Error`, the sequencer's step. -/

namespace Sys2Proof.Machine

@[simp] theorem busy_eq_true (s : State) : s.busy = true ↔ s.seqOp ≠ .idle := by
  unfold State.busy
  cases s.seqOp <;> simp

@[simp] theorem busy_eq_false (s : State) : s.busy = false ↔ s.seqOp = .idle := by
  unfold State.busy
  cases s.seqOp <;> simp

/-- A write while BUSY = 1 is refused (40_host_access.md R120). -/
theorem afterBusyCheck_busy {s : State} (h : s.busy = true) (body : State → Result) :
    afterBusyCheck s body = .next (raiseError .busyReject s) := by
  simp only [afterBusyCheck, h, if_true, refuse]

/-- A write while BUSY = 0 runs its own rule (R120). -/
theorem afterBusyCheck_idle {s : State} (h : s.busy = false) (body : State → Result) :
    afterBusyCheck s body = body s := by
  simp only [afterBusyCheck, h, Bool.false_eq_true, if_false]

/-- Everything the busy check can lead to. -/
theorem afterBusyCheck_next {s t : State} {body : State → Result} (h : afterBusyCheck s body = .next t) :
    (s.busy = true ∧ t = raiseError .busyReject s) ∨ (s.busy = false ∧ body s = .next t) := by
  unfold afterBusyCheck at h
  split at h
  · next hb => exact .inl ⟨hb, by simpa [refuse] using h.symm⟩
  · next hb => exact .inr ⟨by simpa using hb, h⟩

theorem refuse_next {c : ErrCode} {s t : State} : refuse c s = .next t ↔ t = raiseError c s := by
  unfold refuse
  exact ⟨fun h => by cases h; rfl, fun h => by rw [h]⟩

/-- The first error since the last clear is kept (60_exceptions.md R222). -/
theorem raiseError_sticky {c : ErrCode} {s : State} (h : s.err ≠ .none) : raiseError c s = s := by
  unfold raiseError
  rw [if_neg h]

/-- ERRF is 0 exactly when no error is recorded (10_state.md R32). -/
@[simp] theorem errf_eq_false (s : State) : s.errf = false ↔ s.err = .none := by
  unfold State.errf
  cases s.err <;> simp [ErrCode.code]

/-- The sequencer counts, or commits (42_compensation.md R196). -/
theorem sequencerStep_cases (s : State) :
    (1 < s.seqCnt.toNat ∧ sequencerStep s = { s with seqCnt := s.seqCnt - 1#9 }) ∨
      (s.seqCnt.toNat ≤ 1 ∧ sequencerStep s = toIdle (commitOp s.seqOp s)) := by
  unfold sequencerStep
  split
  · next h => exact .inl ⟨by simpa [BitVec.lt_def] using h, rfl⟩
  · next h => exact .inr ⟨by simpa [BitVec.lt_def] using h, rfl⟩

/-- A commit never writes ERR, the operands or the model's own fields (R196, 60_exceptions.md R225). -/
theorem commitOp_frame (op : SeqOp) (s : State) :
    (commitOp op s).err = s.err ∧ (commitOp op s).calByte = s.calByte ∧ (commitOp op s).calMask = s.calMask ∧
    (commitOp op s).calValid = s.calValid ∧ (commitOp op s).raw = s.raw ∧ (commitOp op s).inputs = s.inputs ∧
    (commitOp op s).rdata = s.rdata ∧ (commitOp op s).latT = s.latT ∧ (commitOp op s).latP = s.latP := by
  cases op <;> simp [commitOp, commitT, commitP, commitTp]

/-- The sequencer never writes ERR, the operands or the model's own fields. -/
theorem sequencerStep_frame (s : State) :
    (sequencerStep s).err = s.err ∧ (sequencerStep s).calByte = s.calByte ∧
    (sequencerStep s).calMask = s.calMask ∧ (sequencerStep s).calValid = s.calValid ∧
    (sequencerStep s).raw = s.raw ∧ (sequencerStep s).inputs = s.inputs ∧ (sequencerStep s).rdata = s.rdata ∧
    (sequencerStep s).latT = s.latT ∧ (sequencerStep s).latP = s.latP := by
  rcases sequencerStep_cases s with ⟨-, h⟩ | ⟨-, h⟩ <;> rw [h]
  · simp
  · simpa using commitOp_frame s.seqOp s

end Sys2Proof.Machine
end

