-- ==== Sys2Proof/Laws/Exec.lean ====
section
/-! SUPPORT. One inversion lemma per meaning: everything the instruction can do. Later proofs cite these and do not
unfold a meaning. -/

namespace Sys2Proof.Machine

/-- A write refused by the busy check, or the instruction's own effect in a state with BUSY = 0. -/
def Refused (s t : State) : Prop := s.busy = true ∧ t = raiseError .busyReject s

theorem execRd_next {a : Byte} {s t : State} (h : execRd a s = .next t) : t = driveRdata (s.rd a) s := by
  cases h; rfl

theorem execNop_next {s t : State} (h : execNop s = .next t) : Refused s t ∨ s.busy = false ∧ t = s := by
  rcases afterBusyCheck_next h with h | ⟨hb, h⟩
  · exact .inl h
  · cases h; exact .inr ⟨hb, rfl⟩

theorem execCalCommit_next {s t : State} (h : execCalCommit s = .next t) :
    Refused s t ∨ s.busy = false ∧
      (s.calValid = true ∧ t = s ∨
       s.calValid = false ∧ s.calMask = fullMask ∧ t = setCalValid s ∨
       s.calValid = false ∧ s.calMask ≠ fullMask ∧ t = raiseError .calIncomplete s) := by
  rcases afterBusyCheck_next h with h | ⟨hb, h⟩
  · exact .inl h
  · refine .inr ⟨hb, ?_⟩
    split at h
    · next hv => cases h; exact .inl ⟨hv, rfl⟩
    · next hv =>
      rw [Bool.not_eq_true] at hv
      split at h
      · next hm => cases h; exact .inr (.inl ⟨hv, hm, rfl⟩)
      · next hm => exact .inr (.inr ⟨hv, hm, refuse_next.1 h⟩)

theorem execCalClear_next {s t : State} (h : execCalClear s = .next t) :
    Refused s t ∨ s.busy = false ∧ t = clearCal s := by
  rcases afterBusyCheck_next h with h | ⟨hb, h⟩
  · exact .inl h
  · cases h; exact .inr ⟨hb, rfl⟩

theorem execClrErr_next {s t : State} (h : execClrErr s = .next t) :
    Refused s t ∨ s.busy = false ∧ t = clearError s := by
  rcases afterBusyCheck_next h with h | ⟨hb, h⟩
  · exact .inl h
  · cases h; exact .inr ⟨hb, rfl⟩

theorem execCmdRsv_next {d : Byte} {s t : State} (h : execCmdRsv d s = .next t) :
    Refused s t ∨ s.busy = false ∧ t = raiseError .badCmd s := by
  rcases afterBusyCheck_next h with h | ⟨hb, h⟩
  · exact .inl h
  · exact .inr ⟨hb, refuse_next.1 h⟩

theorem execCompT_next {s t : State} (h : execCompT s = .next t) :
    Refused s t ∨ s.busy = false ∧
      (s.calValid = true ∧ t = startCommand .opT s.latT.cycles s ∨
       s.calValid = false ∧ t = raiseError .notCalibrated s) := by
  rcases afterBusyCheck_next h with h | ⟨hb, h⟩
  · exact .inl h
  · refine .inr ⟨hb, ?_⟩
    split at h
    · next hv => cases h; exact .inl ⟨hv, rfl⟩
    · next hv => exact .inr ⟨by simpa using hv, refuse_next.1 h⟩

theorem execCompP_next {s t : State} (h : execCompP s = .next t) :
    Refused s t ∨ s.busy = false ∧
      (s.calValid = true ∧ s.tfValid = true ∧ t = startCommand .opP s.latP.cycles s ∨
       s.calValid = true ∧ s.tfValid = false ∧ t = raiseError .staleTfine s ∨
       s.calValid = false ∧ t = raiseError .notCalibrated s) := by
  rcases afterBusyCheck_next h with h | ⟨hb, h⟩
  · exact .inl h
  · refine .inr ⟨hb, ?_⟩
    split at h
    · next hv =>
      split at h
      · next hf => cases h; exact .inl ⟨hv, hf, rfl⟩
      · next hf => exact .inr (.inl ⟨hv, by simpa using hf, refuse_next.1 h⟩)
    · next hv => exact .inr (.inr ⟨by simpa using hv, refuse_next.1 h⟩)

theorem execCompTp_next {s t : State} (h : execCompTp s = .next t) :
    Refused s t ∨ s.busy = false ∧
      (s.calValid = true ∧ t = startCommand .opTp s.latTp s ∨
       s.calValid = false ∧ t = raiseError .notCalibrated s) := by
  rcases afterBusyCheck_next h with h | ⟨hb, h⟩
  · exact .inl h
  · refine .inr ⟨hb, ?_⟩
    split at h
    · next hv => cases h; exact .inl ⟨hv, rfl⟩
    · next hv => exact .inr ⟨by simpa using hv, refuse_next.1 h⟩

theorem execWrCal_next {i : Fin 24} {d : Byte} {s t : State} (h : execWrCal i d s = .next t) :
    Refused s t ∨ s.busy = false ∧
      (s.calValid = true ∧ t = raiseError .calLocked s ∨ s.calValid = false ∧ t = writeCal i d s) := by
  rcases afterBusyCheck_next h with h | ⟨hb, h⟩
  · exact .inl h
  · refine .inr ⟨hb, ?_⟩
    split at h
    · next hv => exact .inl ⟨hv, refuse_next.1 h⟩
    · next hv => cases h; exact .inr ⟨by simpa using hv, rfl⟩

theorem execWrRawp_next {j : Fin 3} {d : Byte} {s t : State} (h : execWrRawp j d s = .next t) :
    Refused s t ∨ s.busy = false ∧ t = writeRawP j d s := by
  rcases afterBusyCheck_next h with h | ⟨hb, h⟩
  · exact .inl h
  · cases h; exact .inr ⟨hb, rfl⟩

theorem execWrRawt_next {j : Fin 3} {d : Byte} {s t : State} (h : execWrRawt j d s = .next t) :
    Refused s t ∨ s.busy = false ∧ t = writeRawT j d s := by
  rcases afterBusyCheck_next h with h | ⟨hb, h⟩
  · exact .inl h
  · cases h; exact .inr ⟨hb, rfl⟩

theorem execWrRo_next {a d : Byte} {s t : State} (h : execWrRo a d s = .next t) :
    Refused s t ∨ s.busy = false ∧ t = raiseError .badAddr s := by
  rcases afterBusyCheck_next h with h | ⟨hb, h⟩
  · exact .inl h
  · exact .inr ⟨hb, refuse_next.1 h⟩

theorem execWrRsv_next {a d : Byte} {s t : State} (h : execWrRsv a d s = .next t) :
    Refused s t ∨ s.busy = false ∧ t = raiseError .badAddr s := by
  rcases afterBusyCheck_next h with h | ⟨hb, h⟩
  · exact .inl h
  · exact .inr ⟨hb, refuse_next.1 h⟩

/-- What a transaction can do to the state, whichever it is: the inversion lemma of `exec`. -/
inductive ExecEffect (i : Instr) (s : State) : State → Prop where
  | read (a : Byte) (hi : i = .rd a) : ExecEffect i s (driveRdata (s.rd a) s)
  | refused (c : ErrCode) (hi : i.isWrite = true) : ExecEffect i s (raiseError c s)
  | same (hb : s.busy = false) (hi : i = .nop ∨ i = .calCommit) : ExecEffect i s s
  | committed (hb : s.busy = false) (hi : i = .calCommit) (hm : s.calMask = fullMask) :
      ExecEffect i s (setCalValid s)
  | cleared (hb : s.busy = false) (hi : i = .calClear) : ExecEffect i s (clearCal s)
  | errCleared (hb : s.busy = false) (hi : i = .clrErr) : ExecEffect i s (clearError s)
  | startT (hb : s.busy = false) (hi : i = .compT) (hv : s.calValid = true) :
      ExecEffect i s (startCommand .opT s.latT.cycles s)
  | startP (hb : s.busy = false) (hi : i = .compP) (hv : s.calValid = true) (hf : s.tfValid = true) :
      ExecEffect i s (startCommand .opP s.latP.cycles s)
  | startTp (hb : s.busy = false) (hi : i = .compTp) (hv : s.calValid = true) :
      ExecEffect i s (startCommand .opTp s.latTp s)
  | cal (hb : s.busy = false) (k : Fin 24) (d : Byte) (hi : i = .wrCal k d) (hv : s.calValid = false) :
      ExecEffect i s (writeCal k d s)
  | rawP (hb : s.busy = false) (j : Fin 3) (d : Byte) (hi : i = .wrRawp j d) : ExecEffect i s (writeRawP j d s)
  | rawT (hb : s.busy = false) (j : Fin 3) (d : Byte) (hi : i = .wrRawt j d) : ExecEffect i s (writeRawT j d s)

theorem exec_effect {i : Instr} {s t : State} (h : exec i s = .next t) : ExecEffect i s t := by
  cases i with
  | rd a => rw [execRd_next h]; exact .read a rfl
  | nop =>
    rcases execNop_next h with ⟨-, rfl⟩ | ⟨hb, rfl⟩
    · exact .refused _ rfl
    · exact .same hb (.inl rfl)
  | compT =>
    rcases execCompT_next h with ⟨-, rfl⟩ | ⟨hb, ⟨hv, rfl⟩ | ⟨-, rfl⟩⟩
    · exact .refused _ rfl
    · exact .startT hb rfl hv
    · exact .refused _ rfl
  | compP =>
    rcases execCompP_next h with ⟨-, rfl⟩ | ⟨hb, ⟨hv, hf, rfl⟩ | ⟨-, -, rfl⟩ | ⟨-, rfl⟩⟩
    · exact .refused _ rfl
    · exact .startP hb rfl hv hf
    · exact .refused _ rfl
    · exact .refused _ rfl
  | compTp =>
    rcases execCompTp_next h with ⟨-, rfl⟩ | ⟨hb, ⟨hv, rfl⟩ | ⟨-, rfl⟩⟩
    · exact .refused _ rfl
    · exact .startTp hb rfl hv
    · exact .refused _ rfl
  | calCommit =>
    rcases execCalCommit_next h with ⟨-, rfl⟩ | ⟨hb, ⟨-, rfl⟩ | ⟨-, hm, rfl⟩ | ⟨-, -, rfl⟩⟩
    · exact .refused _ rfl
    · exact .same hb (.inr rfl)
    · exact .committed hb rfl hm
    · exact .refused _ rfl
  | calClear =>
    rcases execCalClear_next h with ⟨-, rfl⟩ | ⟨hb, rfl⟩
    · exact .refused _ rfl
    · exact .cleared hb rfl
  | clrErr =>
    rcases execClrErr_next h with ⟨-, rfl⟩ | ⟨hb, rfl⟩
    · exact .refused _ rfl
    · exact .errCleared hb rfl
  | cmdRsv d =>
    rcases execCmdRsv_next (d := d) h with ⟨-, rfl⟩ | ⟨-, rfl⟩ <;> exact .refused _ rfl
  | wrRo a d =>
    rcases execWrRo_next (a := a) (d := d) h with ⟨-, rfl⟩ | ⟨-, rfl⟩ <;> exact .refused _ rfl
  | wrCal k d =>
    rcases execWrCal_next h with ⟨-, rfl⟩ | ⟨hb, ⟨-, rfl⟩ | ⟨hv, rfl⟩⟩
    · exact .refused _ rfl
    · exact .refused _ rfl
    · exact .cal hb k d rfl hv
  | wrRawp j d =>
    rcases execWrRawp_next h with ⟨-, rfl⟩ | ⟨hb, rfl⟩
    · exact .refused _ rfl
    · exact .rawP hb j d rfl
  | wrRawt j d =>
    rcases execWrRawt_next h with ⟨-, rfl⟩ | ⟨hb, rfl⟩
    · exact .refused _ rfl
    · exact .rawT hb j d rfl
  | wrRsv a d =>
    rcases execWrRsv_next (a := a) (d := d) h with ⟨-, rfl⟩ | ⟨-, rfl⟩ <;> exact .refused _ rfl

end Sys2Proof.Machine
end

