-- ==== Sys2Proof/Laws/PerInstr.lean ====
section
/-! SUPPORT. The family EncodeFields: the three fields of an instruction's word (30_encoding.md R90, R94, R96), one lemma
per constructor. -/

namespace Sys2Proof

/-- The bits of a transaction word are those of its three fields (30_encoding.md R90). -/
theorem mkTW_getLsbD (w : BitVec 1) (a d : Byte) (k : Nat) :
    (mkTW w a d).getLsbD k = if k < 8 then d.getLsbD k else if k - 8 < 8 then a.getLsbD (k - 8) else w.getLsbD (k - 8 - 8) := by
  change (w ++ a ++ d : BitVec (1 + 8 + 8)).getLsbD k = _
  rw [BitVec.getLsbD_append, BitVec.getLsbD_append]

@[simp] theorem twW_mkTW (w : BitVec 1) (a d : Byte) : twW (mkTW w a d) = w := by
  apply BitVec.eq_of_getLsbD_eq
  intro k hk
  have h : 16 + k - 8 - 8 = k := by omega
  rw [twW, BitVec.getLsbD_extractLsb', mkTW_getLsbD, if_neg (by omega), if_neg (by omega), h]
  simp [hk]

@[simp] theorem twA_mkTW (w : BitVec 1) (a d : Byte) : twA (mkTW w a d) = a := by
  apply BitVec.eq_of_getLsbD_eq
  intro k hk
  have h : 8 + k - 8 = k := by omega
  rw [twA, BitVec.getLsbD_extractLsb', mkTW_getLsbD, if_neg (by omega), h, if_pos hk]
  simp [hk]

@[simp] theorem twD_mkTW (w : BitVec 1) (a d : Byte) : twD (mkTW w a d) = d := by
  apply BitVec.eq_of_getLsbD_eq
  intro k hk
  rw [twD, BitVec.getLsbD_extractLsb', Nat.zero_add, mkTW_getLsbD, if_pos hk]
  simp [hk]

/-- A transaction word is its three fields (R90). -/
theorem mkTW_fields (w : TW) : mkTW (twW w) (twA w) (twD w) = w := by
  apply BitVec.eq_of_getLsbD_eq
  intro k hk
  rw [mkTW_getLsbD]
  split
  · next h => simp [twD, h]
  · split
    · next h1 h2 => simp [twA, h2, show 8 + (k - 8) = k by omega]
    · next h1 h2 => simp [twW, show k = 16 by omega]

/-- The address an instruction's transaction is at (30_encoding.md R94). -/
def Instr.addr : Instr → Byte
  | .rd a => a
  | .nop => 0x00#8
  | .compT => 0x00#8
  | .compP => 0x00#8
  | .compTp => 0x00#8
  | .calCommit => 0x00#8
  | .calClear => 0x00#8
  | .clrErr => 0x00#8
  | .cmdRsv _ => 0x00#8
  | .wrRo a _ => a
  | .wrCal i _ => 0x88#8 + BitVec.ofNat 8 i.val
  | .wrRawp j _ => 0xF7#8 + BitVec.ofNat 8 j.val
  | .wrRawt j _ => 0xFA#8 + BitVec.ofNat 8 j.val
  | .wrRsv a _ => a

/-- The data byte of an instruction's transaction (R91, R96). -/
def Instr.data : Instr → Byte
  | .rd _ => 0x00#8
  | .nop => 0x00#8
  | .compT => 0x01#8
  | .compP => 0x02#8
  | .compTp => 0x03#8
  | .calCommit => 0x10#8
  | .calClear => 0x11#8
  | .clrErr => 0x20#8
  | .cmdRsv d => d
  | .wrRo _ d => d
  | .wrCal _ d => d
  | .wrRawp _ d => d
  | .wrRawt _ d => d
  | .wrRsv _ d => d

namespace Laws.EncodeFields

/-- The word of `i` has W = 1 exactly for a write, the address of its class and its data byte. -/
def Statement (i : Instr) : Prop :=
  twW (encode i) = BitVec.ofBool i.isWrite ∧ twA (encode i) = i.addr ∧ twD (encode i) = i.data

theorem rd (a : Byte) : Statement (.rd a) := by simp [Statement, encode, Instr.isWrite, Instr.addr, Instr.data]

theorem nop : Statement .nop := ⟨by decide, by decide, by decide⟩

theorem compT : Statement .compT := ⟨by decide, by decide, by decide⟩

theorem compP : Statement .compP := ⟨by decide, by decide, by decide⟩

theorem compTp : Statement .compTp := ⟨by decide, by decide, by decide⟩

theorem calCommit : Statement .calCommit := ⟨by decide, by decide, by decide⟩

theorem calClear : Statement .calClear := ⟨by decide, by decide, by decide⟩

theorem clrErr : Statement .clrErr := ⟨by decide, by decide, by decide⟩

theorem cmdRsv (d : Byte) : Statement (.cmdRsv d) := by
  simp [Statement, encode, Instr.isWrite, Instr.addr, Instr.data]

theorem wrRo (a d : Byte) : Statement (.wrRo a d) := by
  simp [Statement, encode, Instr.isWrite, Instr.addr, Instr.data]

theorem wrCal (i : Fin 24) (d : Byte) : Statement (.wrCal i d) := by
  simp [Statement, encode, Instr.isWrite, Instr.addr, Instr.data, BitVec.ofNat_add]

theorem wrRawp (j : Fin 3) (d : Byte) : Statement (.wrRawp j d) := by
  simp [Statement, encode, Instr.isWrite, Instr.addr, Instr.data, BitVec.ofNat_add]

theorem wrRawt (j : Fin 3) (d : Byte) : Statement (.wrRawt j d) := by
  simp [Statement, encode, Instr.isWrite, Instr.addr, Instr.data, BitVec.ofNat_add]

theorem wrRsv (a d : Byte) : Statement (.wrRsv a d) := by
  simp [Statement, encode, Instr.isWrite, Instr.addr, Instr.data]

end Laws.EncodeFields

end Sys2Proof
end

