-- ==== Sys2Proof/Laws/Step.lean ====
section
/-! SUPPORT. What one edge can do (the inversion lemma of `step`), what taking the pins leaves, and `run` unfolded one
edge at a time. -/

namespace Sys2Proof.Machine

@[simp] theorem takePins_rd (s : State) (a : Byte) : s.takePins.rd a = s.rd a := rfl

@[simp] theorem takePins_busy (s : State) : s.takePins.busy = s.busy := rfl

@[simp] theorem takePins_cal (s : State) : s.takePins.cal = s.cal := rfl

@[simp] theorem takePins_adcT (s : State) : s.takePins.adcT = s.adcT := rfl

@[simp] theorem takePins_adcP (s : State) : s.takePins.adcP = s.adcP := rfl

/-- Everything a rising edge can do: a reset edge, or the host's part and then the sequencer's. -/
theorem step_cases {s t : State} (h : step s = .next t) :
    (s.pins.rst = true ∧ t = resetEdge s.takePins) ∨
      (s.pins.rst = false ∧ ∃ u, hostPart s.pins s.takePins = .next u ∧ t = sequencerPart s.takePins u) := by
  unfold step edge at h
  split at h
  · next hr => cases h; exact .inl ⟨hr, rfl⟩
  · next hr =>
    refine .inr ⟨by simpa using hr, ?_⟩
    split at h
    · next u hu => cases h; exact ⟨u, hu, rfl⟩
    · cases h
    · cases h

/-- The host's part: an idle cycle, or the presented transaction. -/
theorem hostPart_cases {p : Pins} {s u : State} (h : hostPart p s = .next u) :
    (p.req = false ∧ u = s) ∨ (p.req = true ∧ exec (decodeTW p.word) s = .next u) := by
  unfold hostPart at h
  split at h
  · next hr => exact .inr ⟨hr, h⟩
  · next hr => cases h; exact .inl ⟨by simpa using hr, rfl⟩

/-- The sequencer's part by the state before the edge. -/
theorem sequencerPart_busy {s t : State} (h : s.busy = true) : sequencerPart s t = sequencerStep t := by
  simp [sequencerPart, h]

theorem sequencerPart_idle {s t : State} (h : s.busy = false) : sequencerPart s t = t := by
  simp [sequencerPart, h]

@[simp] theorem run_zero (s : State) : run 0 s = .next s := rfl

theorem run_succ {n : Nat} {s t : State} (h : step s = .next t) : run (n + 1) s = run n t := by
  have h' : Sys2Proof.core.step s = .next t := h
  simp only [run, Host.Core.run, h']
  rfl

/-- A word that is presented is the word that is decoded (30_encoding.md R90). -/
theorem ofWord_word (w : TW) : (Pins.ofWord w).word = w := by
  have h : BitVec.ofBool (twW w == 1#1) = twW w := by
    rcases BitVec.eq_zero_or_eq_one (twW w) with h | h <;> rw [h] <;> rfl
  rw [Pins.word, Pins.ofWord, h]
  exact mkTW_fields w

end Sys2Proof.Machine
end

