-- ==== Sys2Proof/Machine/HostView.lean ====
section
/-! DEFINITION. The physical values the host computes from the block's integers (42_compensation.md R184), as exact
rationals (log entry 16). The block itself has no floating point (R189). -/

namespace Sys2Proof.Machine

/-- Degrees Celsius: `sext_32(TEMP) / 100` (R184). -/
def State.celsius (s : State) : Rat := (sext s.temp : Rat) / 100

/-- Hectopascal: `PRESS / 25600` (R184). -/
def State.hectopascal (s : State) : Rat := (zext s.press : Rat) / 25600

/-- Pascal: `PRESS / 256` (R184). -/
def State.pascal (s : State) : Rat := (zext s.press : Rat) / 256

end Sys2Proof.Machine
end

