-- ==== Sys2Proof/Tests/Slice0.lean ====
section
/-! SUPPORT. Tests, with the expected values of 95_test_vectors.md and of the instructions' rules, and one witness for
the hypotheses of every statement that has some. -/

namespace Sys2Proof.Tests

open Sys2Proof.Machine

/-! States, named as in 95_test_vectors.md section 2. -/

/-- The §8 calibration's byte stream (V1). -/
def bytes8 : Vector Byte 24 :=
  #v[0x70, 0x6B, 0x43, 0x67, 0x18, 0xFC, 0x7D, 0x8E, 0x43, 0xD6, 0xD0, 0x0B, 0x27, 0x0B, 0x8C, 0x00, 0xF9, 0xFF, 0x8C,
     0x3C, 0xF8, 0xC6, 0x70, 0x17]

/-- The §8 calibration (V1). -/
def cal8 : Cal :=
  { t1 := 27504, t2 := 26435, t3 := -1000, p1 := 36477, p2 := -10685, p3 := 3024, p4 := 2855, p5 := 140, p6 := -7,
    p7 := 15500, p8 := -14600, p9 := 6000 }

/-- S0: just after reset. -/
def s0 : State := State.reset

/-- A full mask, not yet committed. -/
def sFull : State := { s0 with calByte := bytes8, calMask := 0xFFFFFF#24 }

/-- S1: the §8 calibration loaded. -/
def s1 : State := { sFull with calValid := true }

/-- S1 with the §8 raw pair written. -/
def s1Raw : State := { s1 with raw := #v[0x65, 0x5A, 0xC0, 0x7E, 0xED, 0x00] }

/-- S2: the V1 register image. -/
def s2 : State :=
  { s1Raw with tFine := 128422#32, temp := 2508#32, press := 25767233#32, tfValid := true, pValid := true }

/-- S3: S2 with a COMP_T in flight. -/
def s3 : State := { s2 with seqOp := .opT, seqCnt := 7#9 }

/-- One edge before the commit of a command, on the §8 raw pair. -/
def sLast (op : SeqOp) : State := { s1Raw with seqOp := op, seqCnt := 1#9 }

/-- The same for COMP_P, with the held T_FINE of V1. -/
def sLastP : State := { s2 with seqOp := .opP, seqCnt := 1#9, press := 0#32, pValid := false }

/-- The same with dig_P1 = 0 (V5). -/
def sGuard (s : State) : State := { s with calByte := (s.calByte.set 6 0x00#8).set 7 0x00#8 }

/-- A state R44 excludes: TF_VALID without CAL_VALID. -/
def sOdd : State := { s0 with tfValid := true }

/-- `s` with a reset edge and a transaction presented together (R-2). -/
def withReset (s : State) : State := { s with inputs := [{ Pins.idle with rst := true, req := true, we := true }] }

/-- `f` of the state one edge later, with the word `w` presented. -/
def after {α : Type} (s : State) (w : TW) (f : State → α) : Option α :=
  match step (s.present [w]) with
  | .next t => some (f t)
  | .fault _ => none
  | .refused _ => none

/-- STATUS and ERR, the two bytes the vectors give. -/
def statusErr (t : State) : Byte × Byte := (t.rd 0x01#8, t.rd 0x02#8)

/-! WellFormed refuses an ill-formed term, for each check. -/

theorem test_wf_wrRo_refuses_cmd : (Instr.wrRo 0x00#8 0x55#8).wf = false := by decide
theorem test_wf_wrRo_refuses_gap : (Instr.wrRo 0x03#8 0x55#8).wf = false := by decide
theorem test_wf_wrRo_refuses_above : (Instr.wrRo 0x13#8 0x55#8).wf = false := by decide
theorem test_wf_wrRsv_refuses_readOnly : (Instr.wrRsv 0x12#8 0x55#8).wf = false := by decide
theorem test_wf_wrRsv_refuses_data : (Instr.wrRsv 0x9F#8 0x55#8).wf = false ∧ (Instr.wrRsv 0xFC#8 0x55#8).wf = false := by
  decide
theorem test_wf_cmdRsv_refuses_defined :
    [0x00#8, 0x01#8, 0x02#8, 0x03#8, 0x10#8, 0x11#8, 0x20#8].map (fun d => (Instr.cmdRsv d).wf)
      = List.replicate 7 false := by decide
theorem test_wf_bounds :
    (Instr.wrRo 0x12#8 0#8).wf = true ∧ (Instr.wrRsv 0xA0#8 0#8).wf = true ∧ (Instr.cmdRsv 0x1F#8).wf = true := by
  decide

/-! Decoding: the word of each row, W, A and D written out in that order from the row's "Encoding" line. -/

theorem test_decode_rd : decodeTW 0b0_00000001_00000000#17 = .rd 0x01#8 := by decide
/-- R92: D is ignored on a read. -/
theorem test_decode_rd_data : decodeTW 0b0_00000001_10100101#17 = .rd 0x01#8 := by decide
theorem test_decode_nop : decodeTW 0b1_00000000_00000000#17 = .nop := by decide
theorem test_decode_compT : decodeTW 0b1_00000000_00000001#17 = .compT := by decide
theorem test_decode_compP : decodeTW 0b1_00000000_00000010#17 = .compP := by decide
theorem test_decode_compTp : decodeTW 0b1_00000000_00000011#17 = .compTp := by decide
theorem test_decode_calCommit : decodeTW 0b1_00000000_00010000#17 = .calCommit := by decide
theorem test_decode_calClear : decodeTW 0b1_00000000_00010001#17 = .calClear := by decide
theorem test_decode_clrErr : decodeTW 0b1_00000000_00100000#17 = .clrErr := by decide
theorem test_decode_cmdRsv : decodeTW 0b1_00000000_11111111#17 = .cmdRsv 0xFF#8 := by decide
theorem test_decode_wrRo : decodeTW 0b1_00001100_00000000#17 = .wrRo 0x0C#8 0x00#8 := by decide
theorem test_decode_wrCal_first : decodeTW 0b1_10001000_01110000#17 = .wrCal 0 0x70#8 := by decide
theorem test_decode_wrCal_last : decodeTW 0b1_10011111_00010111#17 = .wrCal 23 0x17#8 := by decide
theorem test_decode_wrRawp : decodeTW 0b1_11111001_11000101#17 = .wrRawp 2 0xC5#8 := by decide
theorem test_decode_wrRawt : decodeTW 0b1_11111010_01111111#17 = .wrRawt 0 0x7F#8 := by decide
theorem test_decode_wrRsv : decodeTW 0b1_11110100_00100111#17 = .wrRsv 0xF4#8 0x27#8 := by decide
theorem test_decode_wrRsv_top : decodeTW 0b1_11111101_00000000#17 = .wrRsv 0xFD#8 0x00#8 := by decide
theorem test_decode_rejects_wide : decodeWord 0x20000 = .error .widerThanTransactionWord := by decide
theorem test_decodeTableWord : decodeTableWord 24 0x1F427 = some (.wrRsv 0xF4#8 0x27#8) := by decide

/-! The pseudo-instructions: words of V2, V4, H2 and Program 1. -/

theorem test_asmCalload :
    (asmCalload #v[0x6B70#16, 0x6743#16, 0xFC18#16, 0x8E7D#16, 0xD643#16, 0x0BD0#16, 0x0B27#16, 0x008C#16, 0xFFF9#16,
      0x3C8C#16, 0xC6F8#16, 0x1770#16]) =
      [0x18870#17, 0x1896B#17, 0x18A43#17, 0x18B67#17, 0x18C18#17, 0x18DFC#17, 0x18E7D#17, 0x18F8E#17, 0x19043#17,
       0x191D6#17, 0x192D0#17, 0x1930B#17, 0x19427#17, 0x1950B#17, 0x1968C#17, 0x19700#17, 0x198F9#17, 0x199FF#17,
       0x19A8C#17, 0x19B3C#17, 0x19CF8#17, 0x19DC6#17, 0x19E70#17, 0x19F17#17, 0x10010#17] := by decide
theorem test_asmWrraw :
    asmWrrawT 0x7F#8 0xA0#8 0x00#8 = [0x1FA7F#17, 0x1FBA0#17, 0x1FC00#17] ∧
      asmWrrawP 0x65#8 0x5A#8 0xC0#8 = [0x1F765#17, 0x1F85A#17, 0x1F9C0#17] := by decide
theorem test_asmRd :
    asmRd32 symPRESS = [0x00C00#17, 0x00D00#17, 0x00E00#17, 0x00F00#17] ∧
      asmRd24Mask = [0x01000#17, 0x01100#17, 0x01200#17] ∧ asmPoll 2 = [0x00100#17, 0x00100#17] := by decide

/-! Operands: V1, T-C4 to T-C7, T-A3, T-A4, T-A7. -/

theorem test_cal8 : s1.cal = cal8 := by decide
theorem test_constants_signedness :
    ({ s0 with calByte := (s0.calByte.set 8 0x7D#8).set 9 0x8E#8 } : State).cal.p2 = -29059 ∧
      ({ s0 with calByte := (s0.calByte.set 0 0xFF#8).set 1 0xFF#8 } : State).cal.t1 = 65535 ∧
      ({ s0 with calByte := s0.calByte.set 23 0x80#8 } : State).cal.p9 = -32768 := by decide
theorem test_samples : s2.adcT = 519888 ∧ s2.adcP = 415148 := by decide
theorem test_assembleAdc :
    assembleAdc 0x65#8 0x5A#8 0xCF#8 = 415148 ∧ assembleAdc 0x7F#8 0xA0#8 0x00#8 = 522752 ∧
      assembleAdc 0x00#8 0x00#8 0x10#8 = 1 := by decide

/-! The stages: T-T1, T-T3, T-T10, T-P1, T-P6, T-P11, T-P13, T-P14. -/

theorem test_tstage_V1 : tstage 519888 cal8 = (128422, 2508) := by decide
theorem test_tstage_negative : tstage 0 cal8 = (-721301, -14088) := by decide
theorem test_tstage_upper : tstage 0 { cal8 with t1 := 65535, t2 := -32768, t3 := 32767 } = (4194144, 81917) := by
  decide
theorem test_pstage_V1 : pstage 415148 128422 cal8 = .value 25767233 false := by decide
theorem test_pstage_negative_divisor :
    pstage 415148 2225152 { cal8 with p1 := 1, p2 := -32768, p3 := 0 } = .value 594988066460543 true := by decide
theorem test_pstage_truncates : pstage 1003122 128422 cal8 = .value 238208 true := by decide
theorem test_pstage_guard :
    pstage 415148 1176576 { cal8 with p1 := 1, p2 := -32768, p3 := 0 } = .guard ∧
      pstage 415148 1176575 { cal8 with p1 := 1, p2 := -32768, p3 := 0 } = .guard := by decide
theorem test_store_bounds :
    satPress (-19) = 0x00000000#32 ∧ satPress 604359036109620 = 0xFFFFFFFF#32 ∧ satPress 24 = 0x00000018#32 := by decide

/-- V1: 25.08 °C and 100653.25390625 Pa. -/
theorem test_physical : s2.celsius = 25.08 ∧ s2.pascal = 100653.25390625 ∧ s2.hectopascal = 1006.532539062500 := by
  norm_num [State.celsius, State.pascal, State.hectopascal, s2, sext, zext, BitVec.toInt]

/-! One edge of each instruction. -/

theorem test_rd_H2 : after s2 0x00C00#17 (·.rdata) = some 0x41#8 := by decide
theorem test_rd_H4 : after s3 0x00100#17 (fun t => (t.rdata, t.err)) = some (0x0F#8, .none) := by decide
theorem test_wrCal_H5 : after s0 0x18870#17 (fun t => (t.calByte[0], t.calMask, statusErr t))
    = some (0x70#8, 0x000001#24, 0x00#8, 0x00#8) := by decide
theorem test_wrCal_H7 : after s1 0x18800#17 (fun t => (t.calByte[0], statusErr t)) = some (0x70#8, 0x82#8, 0x05#8) := by
  decide
theorem test_wrRawp_H8 : after s2 0x1F9C5#17 (fun t => (t.raw[2], statusErr t)) = some (0xC5#8, 0x06#8, 0x00#8) := by
  decide
theorem test_wrRawp_H13 : after s3 0x1F900#17 (fun t => (t.raw[2], statusErr t)) = some (0xC0#8, 0x8F#8, 0x06#8) := by
  decide
theorem test_wrRawt_H9 : after s2 0x1FC00#17 statusErr = some (0x02#8, 0x00#8) := by decide
theorem test_wrRawt_K4 : after s2 0x1FA11#17 (fun t => (t.raw[3], t.tfValid)) = some (0x11#8, false) := by decide
theorem test_wrRo_H11 : after s0 0x101FF#17 statusErr = some (0x80#8, 0x07#8) := by decide
theorem test_wrRo_E2 : after s3 0x10100#17 (fun t => t.rd 0x02#8) = some 0x06#8 := by decide
theorem test_wrRsv_H12 : after s0 0x1F427#17 statusErr = some (0x80#8, 0x07#8) := by decide
theorem test_nop_C1 : after s2 0x10000#17 id = some s2 := by decide
theorem test_calCommit_C2 : after s0 0x10010#17 statusErr = some (0x80#8, 0x04#8) := by decide
theorem test_calCommit_V4 : after sFull 0x10010#17 statusErr = some (0x02#8, 0x00#8) := by decide
theorem test_calClear_C4 : after s2 0x10011#17 (fun t => (statusErr t, t.calMask, t.calByte[0], t.press))
    = some ((0x00#8, 0x00#8), 0x000000#24, 0x70#8, 25767233#32) := by decide
theorem test_clrErr_C6 : after { s0 with err := .badCmd } 0x10020#17 statusErr = some (0x00#8, 0x00#8) := by decide
theorem test_clrErr_C9 : after s3 0x10020#17 statusErr = some (0x8F#8, 0x06#8) := by decide
theorem test_cmdRsv_C7 : after s0 0x100FF#17 statusErr = some (0x80#8, 0x03#8) := by decide
/-- E1: the first error is kept. -/
theorem test_cmdRsv_sticky : after { s0 with err := .notCalibrated } 0x10055#17 (·.err) = some .notCalibrated := by decide
theorem test_compT_K1 : after s0 0x10001#17 (fun t => (statusErr t, t.busy)) = some ((0x80#8, 0x01#8), false) := by decide
theorem test_compT_accepted : after s1Raw 0x10001#17 (fun t => (t.seqOp, t.seqCnt, t.busy)) = some (.opT, 7#9, true) := by
  decide
theorem test_compP_K2 : after s1 0x10002#17 statusErr = some (0x82#8, 0x02#8) := by decide
theorem test_compP_K6 : after s0 0x10002#17 (fun t => t.rd 0x02#8) = some 0x01#8 := by decide
theorem test_compTp_K3 : after s1 0x10003#17 (fun t => (t.rd 0x01#8, t.seqCnt)) = some (0x03#8, 97#9) := by decide
theorem test_compTp_K7 : after s3 0x10003#17 (fun t => (statusErr t, t.seqOp)) = some ((0x8F#8, 0x06#8), .opT) := by decide

/-! The commit edges. -/

/-- Section 2.10, edge k+7: the commit and the refusal at one edge. -/
theorem test_commit_opT : after (sLast .opT) 0x1F711#17 (fun t => (t.temp, t.tFine, t.rd 0x01#8, t.raw[0]))
    = some (0x000009CC#32, 128422#32, 0x86#8, 0x65#8) := by decide
theorem test_commit_opP : after sLastP 0x00200#17 (fun t => (t.press, statusErr t))
    = some (0x01892D41#32, 0x0E#8, 0x00#8) := by decide
theorem test_commit_opTp : after (sLast .opTp) 0x00C00#17 (fun t => (t.press, t.tFine, t.rd 0x01#8, t.rdata))
    = some (0x01892D41#32, 128422#32, 0x0E#8, 0x00#8) := by decide
/-- V5. -/
theorem test_commit_guard : after (sGuard (sLast .opTp)) 0x00C00#17 (fun t => (t.press, t.temp, statusErr t))
    = some (0x00000000#32, 2508#32, 0x1E#8, 0x00#8) := by decide
/-- R-2: the reset wins over the transaction and the command. -/
theorem test_reset_edge : (match step (withReset s3) with | .next t => some t | .fault _ => none | .refused _ => none)
    = some State.reset := by decide

/-! Witnesses: states and operands that meet the hypotheses of the statements, one for each clause that has some. -/

theorem witness_ResetEdgeOverridesEverything :
    (withReset s3).pins.rst = true ∧ (withReset sOdd).pins.rst = true := by decide

theorem witness_DecodeOfEncodeIsTheInstruction :
    (Instr.wrRo 0x01#8 0xFF#8).wf = true ∧ (Instr.wrRsv 0xFF#8 0x00#8).wf = true ∧ (Instr.cmdRsv 0x21#8).wf = true ∧
      (Instr.wrCal 23 0xFF#8).wf = true ∧ (Instr.rd 0xFF#8).wf = true := by decide

theorem witness_AddressClassesSelectTheInstruction :
    isRoAddr 0x01#8 = true ∧ isRoAddr 0x12#8 = true ∧ isRsvAddr 0x03#8 = true ∧ isRsvAddr 0xFF#8 = true ∧
      isRsvCode 0x04#8 = true ∧ isRsvCode 0xFF#8 = true := by decide

theorem witness_StepRunsThePresentedTransaction :
    ((s0.present [0x10000#17]).inputs = Pins.ofWord 0x10000#17 :: [] ∧ (Pins.ofWord 0x10000#17).rst = false ∧
      (Pins.ofWord 0x10000#17).req = true ∧ decodeTW (Pins.ofWord 0x10000#17).word = .nop ∧ s0.busy = false ∧
      s3.busy = true ∧ decodeTW 0x10000#17 = .nop) ∧
    (∃ t, exec .nop { s0 with inputs := [], rdata := 0x00#8 } = .next t) ∧
    (∃ t, exec .nop { s3 with inputs := [], rdata := 0x00#8 } = .next t) :=
  ⟨by decide, ⟨_, rfl⟩, ⟨_, rfl⟩⟩

theorem witness_IdleCycleOnlyRunsTheSequencer :
    (s0.pins.rst = false ∧ s0.pins.req = false ∧ s0.busy = false) ∧
    ((s3.presentIdle 1).pins.rst = false ∧ (s3.presentIdle 1).pins.req = false ∧ (s3.presentIdle 1).busy = true) := by
  decide

theorem witness_ReadReturnsTheByteBeforeTheEdge :
    ((s3.present [0x00C00#17]).pins.rst = false ∧ (s3.present [0x00C00#17]).pins.req = true ∧
      (s3.present [0x00C00#17]).pins.we = false) ∧ ∃ t, step (s3.present [0x00C00#17]) = .next t :=
  ⟨by decide, _, rfl⟩

theorem witness_EdgeKeepsParametersAndTakesOneSetOfPins : ∃ t, step (s3.present [0x10003#17]) = .next t := ⟨_, rfl⟩

theorem witness_reserved_reads : isRsvAddr 0x13#8 = true ∧ isRsvAddr 0xF6#8 = true := by decide

theorem witness_BusyRefusesEveryWriteAndNoRead :
    (Instr.wrCal 0 0x00#8).isWrite = true ∧ Instr.clrErr.isWrite = true ∧ s3.busy = true := by decide

theorem witness_FirstMatchingCheckGivesTheError :
    errorOf .clrErr s3 = some .busyReject ∧ errorOf (.wrRo 0x01#8 0xFF#8) s0 = some .badAddr ∧
      errorOf (.cmdRsv 0x55#8) s0 = some .badCmd ∧ errorOf .compP s0 = some .notCalibrated ∧
      errorOf .compP s1 = some .staleTfine ∧ errorOf .calCommit s0 = some .calIncomplete ∧
      errorOf (.wrCal 0 0x00#8) s1 = some .calLocked ∧ errorOf .compP s2 = none ∧ errorOf .clrErr s0 = none := by decide

theorem witness_RecordedErrorStaysUntilClrErrOrReset :
    ({ s3 with err := .badCmd } : State).err ≠ .none ∧ (∃ t, step { s3 with err := .badCmd } = .next t) ∧
      ∃ t, step (({ s0 with err := .badCmd } : State).present [0x10020#17]) = .next t ∧ t.err = .none :=
  ⟨by decide, ⟨_, rfl⟩, _, rfl, by decide⟩

theorem witness_WrCal : s3.busy = true ∧ (s1.busy = false ∧ s1.calValid = true) ∧ (s0.busy = false ∧ s0.calValid = false) := by
  decide

/-- For WR_RAWP, WR_RAWT, WR_RO, WR_RSV, NOP, CAL_CLEAR, CLR_ERR and CMD_RSV: a busy and an idle state. -/
theorem witness_busy_and_idle :
    s3.busy = true ∧ s2.busy = false ∧ isRoAddr 0x0C#8 = true ∧ isRsvAddr 0xF4#8 = true ∧ isRsvCode 0x12#8 = true := by
  decide

theorem witness_CalCommitNeedsTheFullMask :
    s3.busy = true ∧ (s1.busy = false ∧ s1.calValid = true) ∧
      (s0.busy = false ∧ s0.calValid = false ∧ s0.calMask ≠ 0xFFFFFF#24) ∧
      (sFull.busy = false ∧ sFull.calValid = false ∧ sFull.calMask = 0xFFFFFF#24) := by decide

theorem witness_CompT :
    s3.busy = true ∧ (s0.busy = false ∧ s0.calValid = false) ∧ (s1.busy = false ∧ s1.calValid = true) ∧
      ((sLast .opT).seqOp = .opT ∧ (sLast .opT).seqCnt = 1#9) := by decide

theorem witness_CompP :
    s3.busy = true ∧ (s0.busy = false ∧ s0.calValid = false) ∧
      (s1.busy = false ∧ s1.calValid = true ∧ s1.tfValid = false) ∧
      (s2.busy = false ∧ s2.calValid = true ∧ s2.tfValid = true) ∧ (sLastP.seqOp = .opP ∧ sLastP.seqCnt = 1#9) := by
  decide

theorem witness_CompTp :
    s3.busy = true ∧ (s0.busy = false ∧ s0.calValid = false) ∧ (s1.busy = false ∧ s1.calValid = true) ∧
      ((sLast .opTp).seqOp = .opTp ∧ (sLast .opTp).seqCnt = 1#9) := by decide

theorem witness_PressureStoreSaturates :
    (-1 : Int) < 0 ∧ (4294967296 : Int) > 2 ^ 32 - 1 ∧ (0 : Int) ≤ 0 ∧ (4294967295 : Int) ≤ 2 ^ 32 - 1 := by decide

theorem witness_PressureStageFormula :
    (pressSteps 415148 128422 cal8).dv = 597560748 ∧ (pressSteps 415148 128422 { cal8 with p1 := 0 }).dv = 0 := by decide

theorem witness_DivisionRoundsTowardZero :
    tdiv 7 2 = 3 ∧ (¬ (2 : Int) ∣ -7 ∧ tdiv (-7) 2 = -3) ∧ (¬ (-2 : Int) ∣ 7 ∧ tdiv 7 (-2) = -3) := by decide

theorem witness_DivideGuardExactlyOnAZeroDivisor :
    ((sGuard sLastP).seqOp = .opP ∧ (sGuard sLastP).seqCnt = 1#9 ∧
      pstage (sGuard sLastP).adcP (sext (sGuard sLastP).tFine) (sGuard sLastP).cal = .guard) ∧
    ((sGuard (sLast .opTp)).seqOp = .opTp ∧ (sGuard (sLast .opTp)).seqCnt = 1#9 ∧
      pstage (sGuard (sLast .opTp)).adcP (tstage (sGuard (sLast .opTp)).adcT (sGuard (sLast .opTp)).cal).1
        (sGuard (sLast .opTp)).cal = .guard) ∧ (sGuard s1).cal.p1 = 0 := by decide

/-- The calibration at the bounds of T-T10. -/
def calExtreme : Cal :=
  { t1 := 65535, t2 := -32768, t3 := 32767, p1 := 0, p2 := -32768, p3 := 32767, p4 := -32768, p5 := 32767, p6 := -32768,
    p7 := 32767, p8 := -32768, p9 := 32767 }

theorem cal8_inRange : cal8.InRange := by constructor <;> decide

theorem calExtreme_inRange : calExtreme.InRange := by constructor <;> decide

theorem witness_TemperatureResultsFitTheirRegisters :
    (AdcInRange 0 ∧ calExtreme.InRange) ∧ (AdcInRange 1048575 ∧ cal8.InRange) :=
  ⟨⟨⟨by decide, by decide⟩, calExtreme_inRange⟩, ⟨by decide, by decide⟩, cal8_inRange⟩

theorem witness_IntermediatesFitTheirWidths :
    AdcInRange 0 ∧ AdcInRange 1048575 ∧ TFineInRange (-4194224) ∧ TFineInRange 4194144 ∧ calExtreme.InRange :=
  ⟨⟨by decide, by decide⟩, ⟨by decide, by decide⟩, ⟨by decide, by decide⟩, ⟨by decide, by decide⟩, calExtreme_inRange⟩

/-- V1's input, of which 95_test_vectors.md says that a 64-bit implementation agrees on it. -/
theorem witness_SixtyFourBitsAgreeWhereIntermediatesFit :
    (AdcInRange 519888 ∧ AdcInRange 415148 ∧ TFineInRange 128422 ∧ cal8.InRange) ∧
    (let r := pressSteps 415148 128422 cal8
     FitsSigned 64 r.yP1 ∧ FitsSigned 64 r.n ∧ FitsSigned 64 r.q ∧ FitsSigned 64 r.qqP9 ∧ FitsSigned 64 r.e ∧
      FitsSigned 64 r.qP8 ∧ FitsSigned 64 r.sum ∧ FitsSigned 64 r.p) ∧
    pstage64 415148 128422 cal8 = .value 25767233 false :=
  ⟨⟨⟨by decide, by decide⟩, ⟨by decide, by decide⟩, ⟨by decide, by decide⟩, cal8_inRange⟩,
   by unfold FitsSigned; decide, by decide⟩

theorem witness_EdgeKeepsTheStatusInvariants :
    StatusInv s3 ∧ StatusInv (sGuard (sLast .opTp)) ∧ (∃ t, step (s3.present [0x10011#17]) = .next t) ∧
      ∃ t, step (sGuard (sLast .opTp)) = .next t ∧ t.divGuard = true :=
  ⟨by constructor <;> decide, by constructor <;> decide, ⟨_, rfl⟩, _, rfl, by decide⟩

theorem witness_ReachableStatesSatisfyTheInvariants :
    ∃ t, run 2 { State.reset with
      inputs := [Pins.ofWord 0x18870#17, Pins.ofWord 0x10003#17], latT := ⟨1, by decide⟩, latP := ⟨255, by decide⟩ }
        = .next t ∧ t.calMask = 0x000001#24 ∧ t.err = .notCalibrated := ⟨_, rfl, by decide, by decide⟩

theorem witness_EdgeKeepsTheCounterInItsLatency :
    CountInv s3 ∧ CountInv s0 ∧
      CountInv { s2 with seqOp := .opTp, seqCnt := 510#9, latT := ⟨255, by decide⟩, latP := ⟨255, by decide⟩ } :=
  ⟨by constructor <;> decide, by constructor <;> decide, by constructor <;> decide⟩

theorem witness_EdgeKeepsTheResultRanges :
    RangeInv s3 ∧ RangeInv { sLast .opT with tFine := BitVec.ofInt 32 (-4194224), temp := BitVec.ofInt 32 (-81918) } :=
  ⟨by constructor <;> decide, by constructor <;> decide⟩

theorem witness_ValidFlagsMarkCurrentResults :
    StatusInv s2 ∧ ResultsCurrent s2 ∧ StatusInv (sLast .opTp) ∧ ResultsCurrent (sLast .opTp) ∧
      ∃ t, step (sLast .opTp) = .next t ∧ t.pValid = true :=
  ⟨by constructor <;> decide,
   ⟨fun _ => ⟨by decide, by decide⟩, fun _ => by
      have h : pstage s2.adcP (sext s2.tFine) s2.cal = .value 25767233 false := by decide
      rw [h]
      exact ⟨by decide, by decide, by decide, by decide⟩⟩,
   by constructor <;> decide,
   ⟨fun h => absurd h (by decide), fun h => absurd h (by decide)⟩, _, rfl, by decide⟩

theorem witness_CalibrationIsImmutableWhileValid :
    s2.calValid = true ∧ s2.busy = false ∧ (s2.present [0x18800#17]).pins.rst = false ∧
      ∃ t, step (s2.present [0x18800#17]) = .next t :=
  ⟨by decide, by decide, by decide, _, rfl⟩

theorem witness_CalValidChangesOnlyByItsCommands :
    (∃ t, step (sFull.present [0x10010#17]) = .next t ∧ sFull.calValid = false ∧ t.calValid = true) ∧
    (∃ t, step (s1.present [0x10011#17]) = .next t ∧ s1.calValid = true ∧ t.calValid = false) ∧
    (∃ t, step (withReset s3) = .next t ∧ s3.calValid = true ∧ t.calValid = false) :=
  ⟨⟨_, rfl, by decide, by decide⟩, ⟨_, rfl, by decide, by decide⟩, ⟨_, rfl, by decide, by decide⟩⟩

theorem witness_ResultValidFlagsChangeOnlyAsStated :
    (∃ t, step (sLast .opTp) = .next t ∧ (sLast .opTp).tfValid = false ∧ t.tfValid = true ∧
      (sLast .opTp).pValid = false ∧ t.pValid = true) ∧
    (∃ t, step (s2.present [0x1FC00#17]) = .next t ∧ s2.tfValid = true ∧ t.tfValid = false ∧ s2.pValid = true ∧
      t.pValid = false) ∧
    (∃ t, step (s2.present [0x1F9C5#17]) = .next t ∧ s2.pValid = true ∧ t.pValid = false ∧ t.tfValid = true) ∧
    (∃ t, step (s2.present [0x10011#17]) = .next t ∧ t.tfValid = false ∧ t.pValid = false) :=
  ⟨⟨_, rfl, by decide, by decide, by decide, by decide⟩, ⟨_, rfl, by decide, by decide, by decide, by decide⟩,
   ⟨_, rfl, by decide, by decide, by decide⟩, ⟨_, rfl, by decide, by decide⟩⟩

theorem witness_ResultsChangeOnlyAtTheirCommit :
    (s3.pins.rst = false ∧ s3.atCommit = false ∧ ∃ t, step s3 = .next t) ∧
    ((sLast .opT).pins.rst = false ∧ (sLast .opT).atCommit = true ∧ ∃ t, step (sLast .opT) = .next t) ∧
    (sLastP.pins.rst = false ∧ sLastP.atCommit = true ∧ ∃ t, step sLastP = .next t) :=
  ⟨⟨by decide, by decide, _, rfl⟩, ⟨by decide, by decide, _, rfl⟩, ⟨by decide, by decide, _, rfl⟩⟩

theorem witness_DataWritesLeaveTheRestOfTheWindow :
    (s0.busy = false ∧ s0.calValid = false ∧ ∃ t, exec (.wrCal 23 0x17#8) s0 = .next t) ∧
    (s2.busy = false ∧ (∃ t, exec (.wrRawp 0 0x65#8) s2 = .next t) ∧ ∃ t, exec (.wrRawt 2 0x10#8) s2 = .next t) :=
  ⟨⟨by decide, by decide, _, rfl⟩, by decide, ⟨_, rfl⟩, _, rfl⟩

theorem witness_RepeatedTransactionsAreIdempotent :
    isCompensation .calCommit = false ∧ (∃ t, exec .calCommit sFull = .next t) ∧ ∃ t, exec .calCommit s0 = .next t :=
  ⟨by decide, ⟨_, rfl⟩, _, rfl⟩

theorem witness_TimingIsIndependentOfTheData :
    SameControl s3 { s3 with calByte := Vector.replicate 24 0x00#8, raw := Vector.replicate 6 0xFF#8, tFine := 0#32 } ∧
      ∃ t, run 1 s3 = .next t := ⟨⟨rfl, rfl, rfl, rfl, rfl, rfl, rfl, rfl⟩, _, rfl⟩

theorem witness_CommandInFlightKeepsResultsUntilItsCommit :
    s3.busy = true ∧ 6 < s3.seqCnt.toNat ∧ (s3.present [0x10011#17, 0x1F700#17]).noReset 6 :=
  ⟨by decide, by decide, by unfold State.noReset; decide⟩

theorem witness_CommandCommitsWhatItsOperandsGave :
    s3.busy = true ∧ 0 < s3.seqCnt.toNat ∧ (s3.present [0x10011#17]).noReset s3.seqCnt.toNat :=
  ⟨by decide, by decide, by unfold State.noReset; decide⟩

theorem witness_CommandIsBusyForExactlyItsLatency :
    (isCompensation .compT = true ∧ (s1.present [0x10001#17]).presented = some .compT ∧
      errorOf .compT (s1.present [0x10001#17]) = none ∧ (s1.present [0x10001#17]).noReset 8) ∧
    (isCompensation .compP = true ∧ (s2.present [0x10002#17]).presented = some .compP ∧
      errorOf .compP (s2.present [0x10002#17]) = none ∧ (s2.present [0x10002#17]).noReset 91) ∧
    (isCompensation .compTp = true ∧ (s1.present [0x10003#17]).presented = some .compTp ∧
      errorOf .compTp (s1.present [0x10003#17]) = none ∧ (s1.present [0x10003#17]).noReset 98) :=
  ⟨⟨by decide, by decide, by decide, by unfold State.noReset; decide⟩,
   ⟨by decide, by decide, by decide, by unfold State.noReset; decide⟩,
   ⟨by decide, by decide, by decide, by unfold State.noReset; decide⟩⟩

theorem witness_CompTpEqualsCompTThenCompP : s1Raw.busy = false ∧ s1Raw.calValid = true ∧ s1Raw.inputs = [] := by decide

theorem witness_CalloadLoadsAndCommitsTheSet : s0.busy = false ∧ s0.calValid = false := by decide

theorem witness_WrrawSetsTheSample : s2.busy = false := by decide

theorem witness_PollEndsWhenTheCommandCommits : s3.busy = true ∧ 0 < s3.seqCnt.toNat := by decide

theorem witness_CalibrationConstantsFromTheirBytes :
    (s1.calWord 2).toNat > 32767 ∧ ¬ (s1.calWord 1).toNat > 32767 ∧ (s1.calWord 3).toNat = 36477 := by decide

end Sys2Proof.Tests
end

/-! ## What one edge can do

`EdgeEffect` says once everything a rising edge does to a state. The invariants of 10_state.md and the facts about what
changes a flag or a result are case analyses on it. -/

namespace Sys2Proof.Machine

/-- The state after an edge that moved nothing of the block but ERR.CODE: the pins are taken, `rdata` carries `r`. -/
def State.quiet (s : State) (e : ErrCode) (r : Byte) : State :=
  { s with err := e, inputs := s.inputs.tail, rdata := r }

section QuietFields

variable (s : State) (e : ErrCode) (r : Byte)

@[simp] theorem quiet_calByte : (s.quiet e r).calByte = s.calByte := rfl
@[simp] theorem quiet_calMask : (s.quiet e r).calMask = s.calMask := rfl
@[simp] theorem quiet_raw : (s.quiet e r).raw = s.raw := rfl
@[simp] theorem quiet_tFine : (s.quiet e r).tFine = s.tFine := rfl
@[simp] theorem quiet_temp : (s.quiet e r).temp = s.temp := rfl
@[simp] theorem quiet_press : (s.quiet e r).press = s.press := rfl
@[simp] theorem quiet_calValid : (s.quiet e r).calValid = s.calValid := rfl
@[simp] theorem quiet_tfValid : (s.quiet e r).tfValid = s.tfValid := rfl
@[simp] theorem quiet_pValid : (s.quiet e r).pValid = s.pValid := rfl
@[simp] theorem quiet_divGuard : (s.quiet e r).divGuard = s.divGuard := rfl
@[simp] theorem quiet_pSat : (s.quiet e r).pSat = s.pSat := rfl
@[simp] theorem quiet_negDiv : (s.quiet e r).negDiv = s.negDiv := rfl
@[simp] theorem quiet_err : (s.quiet e r).err = e := rfl
@[simp] theorem quiet_seqOp : (s.quiet e r).seqOp = s.seqOp := rfl
@[simp] theorem quiet_seqCnt : (s.quiet e r).seqCnt = s.seqCnt := rfl
@[simp] theorem quiet_inputs : (s.quiet e r).inputs = s.inputs.tail := rfl
@[simp] theorem quiet_rdata : (s.quiet e r).rdata = r := rfl
@[simp] theorem quiet_latT : (s.quiet e r).latT = s.latT := rfl
@[simp] theorem quiet_latP : (s.quiet e r).latP = s.latP := rfl

end QuietFields

/-- The state after an edge that moved SEQ_CNT and otherwise nothing of the block but ERR.CODE. -/
def State.counted (s : State) (e : ErrCode) (r : Byte) : State := { s.quiet e r with seqCnt := s.seqCnt - 1#9 }

@[simp] theorem counted_seqOp (s : State) (e : ErrCode) (r : Byte) : (s.counted e r).seqOp = s.seqOp := rfl
@[simp] theorem counted_seqCnt (s : State) (e : ErrCode) (r : Byte) : (s.counted e r).seqCnt = s.seqCnt - 1#9 := rfl

/-- The presented transaction, when `req = 1` and no reset (20_memory.md R62). -/
theorem presented_eq_some {s : State} (hr : s.pins.rst = false) (hq : s.pins.req = true) :
    s.presented = some (decodeTW s.pins.word) := by
  simp [State.presented, hr, hq]

/-- A compensation command is in flight and its count has run out (42_compensation.md R196). -/
theorem atCommit_eq_true (s : State) : s.atCommit = true ↔ s.busy = true ∧ s.seqCnt.toNat ≤ 1 := by
  simp [State.atCommit]

/-- A write answers as soon as its own rule does: the busy check refuses with a next state too (R120, R222). -/
theorem afterBusyCheck_answers {s : State} {body : State → Result} (h : ∃ t, body s = .next t) :
    ∃ t, afterBusyCheck s body = .next t := by
  cases hb : s.busy with
  | true => exact ⟨_, afterBusyCheck_busy hb body⟩
  | false => rwa [afterBusyCheck_idle hb]

/-- Every transaction answers a next state (30_encoding.md R93, 60_exceptions.md R222). -/
theorem exec_answers (i : Instr) (s : State) : ∃ t, exec i s = .next t := by
  cases i with
  | rd a => exact ⟨_, rfl⟩
  | compT | compTp | wrCal =>
    simp only [exec, execCompT, execCompTp, execWrCal]
    refine afterBusyCheck_answers ?_
    split <;> exact ⟨_, rfl⟩
  | compP =>
    simp only [exec, execCompP]
    refine afterBusyCheck_answers ?_
    split
    · split <;> exact ⟨_, rfl⟩
    · exact ⟨_, rfl⟩
  | calCommit =>
    simp only [exec, execCalCommit]
    refine afterBusyCheck_answers ?_
    split
    · exact ⟨_, rfl⟩
    · split <;> exact ⟨_, rfl⟩
  | nop | calClear | clrErr | cmdRsv | wrRo | wrRawp | wrRawt | wrRsv =>
    simp only [exec, execNop, execCalClear, execClrErr, execCmdRsv, execWrRo, execWrRawp, execWrRawt, execWrRsv]
    exact afterBusyCheck_answers ⟨_, rfl⟩

theorem hostPart_answers (p : Pins) (s : State) : ∃ t, hostPart p s = .next t := by
  unfold hostPart
  split
  · exact exec_answers _ s
  · exact ⟨s, rfl⟩

/-- Without a reset an edge is the host's part and then the sequencer's (R62, R196). -/
theorem step_of_hostPart {s u : State} (hr : s.pins.rst = false) (hu : hostPart s.pins s.takePins = .next u) :
    step s = .next (sequencerPart s.takePins u) := by
  simp [step, edge, hr, hu]

theorem step_answers (s : State) : ∃ t, step s = .next t := by
  cases hr : s.pins.rst with
  | true => exact ⟨resetEdge s.takePins, by simp [step, edge, hr]⟩
  | false =>
    obtain ⟨u, hu⟩ := hostPart_answers s.pins s.takePins
    exact ⟨_, step_of_hostPart hr hu⟩

/-- While BUSY = 1 the host can only read or be refused (40_host_access.md R120). -/
theorem exec_busy {i : Instr} {s u : State} (hb : s.busy = true) (h : exec i s.takePins = .next u) :
    ∃ e r, u = s.quiet e r := by
  have hb' : s.takePins.busy ≠ false := by simpa using hb
  cases exec_effect h with
  | read a => exact ⟨_, _, rfl⟩
  | refused c => exact ⟨_, _, rfl⟩
  | same hi | committed hi | cleared hi | errCleared hi => exact absurd hi hb'
  | startT hi | startP hi | startTp hi => exact absurd hi hb'
  | cal hi | rawP hi | rawT hi => exact absurd hi hb'

/-- While BUSY = 1 an edge without a reset is the sequencer's step, whatever the host presents (R120, R196). -/
theorem step_busy {s : State} (hr : s.pins.rst = false) (hb : s.busy = true) :
    ∃ e r, step s = .next (sequencerStep (s.quiet e r)) := by
  obtain ⟨u, hu⟩ := hostPart_answers s.pins s.takePins
  have hquiet : ∃ e r, u = s.quiet e r := by
    rcases hostPart_cases hu with ⟨-, rfl⟩ | ⟨-, h⟩
    · exact ⟨_, _, rfl⟩
    · exact exec_busy hb h
  obtain ⟨e, r, rfl⟩ := hquiet
  exact ⟨e, r, by rw [step_of_hostPart hr hu, sequencerPart_busy (by simpa using hb)]⟩

/-- An edge before the last of a command: only the count moves. -/
theorem step_counts {s : State} (hr : s.pins.rst = false) (hb : s.busy = true) (hc : 1 < s.seqCnt.toNat) :
    ∃ e r, step s = .next (s.counted e r) := by
  obtain ⟨e, r, h⟩ := step_busy hr hb
  rcases sequencerStep_cases (s.quiet e r) with ⟨-, hs⟩ | ⟨hle, -⟩
  · exact ⟨e, r, by rw [h, hs]; rfl⟩
  · exact absurd hc (by simpa using hle)

/-- The last edge of a command: its commit, and the sequencer is idle. -/
theorem step_commits {s : State} (hr : s.pins.rst = false) (ha : s.atCommit = true) :
    ∃ e r, step s = .next (toIdle (commitOp s.seqOp (s.quiet e r))) := by
  obtain ⟨hb, hc⟩ := (atCommit_eq_true s).1 ha
  obtain ⟨e, r, h⟩ := step_busy hr hb
  rcases sequencerStep_cases (s.quiet e r) with ⟨hlt, -⟩ | ⟨-, hs⟩
  · exact absurd hc (by simpa using hlt)
  · exact ⟨e, r, by rw [h, hs]; rfl⟩

/-- Everything a rising edge can do to a state: the inversion lemma of `step`. -/
inductive EdgeEffect (s : State) : State → Prop where
  | reset (hr : s.pins.rst = true) : EdgeEffect s (resetEdge s.takePins)
  /-- An idle block and an idle cycle, a read, or a transaction that writes ERR.CODE at most. -/
  | quiet (hr : s.pins.rst = false) (hb : s.busy = false) (e : ErrCode) (r : Byte) : EdgeEffect s (s.quiet e r)
  | count (hr : s.pins.rst = false) (hb : s.busy = true) (hc : 1 < s.seqCnt.toNat) (e : ErrCode) (r : Byte) :
      EdgeEffect s (s.counted e r)
  | commit (hr : s.pins.rst = false) (ha : s.atCommit = true) (e : ErrCode) (r : Byte) :
      EdgeEffect s (toIdle (commitOp s.seqOp (s.quiet e r)))
  | calCommitted (hb : s.busy = false) (hp : s.presented = some .calCommit) (hm : s.calMask = fullMask) :
      EdgeEffect s (setCalValid s.takePins)
  | calCleared (hb : s.busy = false) (hp : s.presented = some .calClear) : EdgeEffect s (clearCal s.takePins)
  | startT (hb : s.busy = false) (hp : s.presented = some .compT) (hv : s.calValid = true) :
      EdgeEffect s (startCommand .opT s.latT.cycles s.takePins)
  | startP (hb : s.busy = false) (hp : s.presented = some .compP) (hv : s.calValid = true) (hf : s.tfValid = true) :
      EdgeEffect s (startCommand .opP s.latP.cycles s.takePins)
  | startTp (hb : s.busy = false) (hp : s.presented = some .compTp) (hv : s.calValid = true) :
      EdgeEffect s (startCommand .opTp s.latTp s.takePins)
  | calWritten (hb : s.busy = false) (hv : s.calValid = false) (k : Fin 24) (d : Byte)
      (hp : s.presented = some (.wrCal k d)) :
      EdgeEffect s (writeCal k d s.takePins)
  | rawPWritten (hb : s.busy = false) (j : Fin 3) (d : Byte) (hp : s.presented = some (.wrRawp j d)) :
      EdgeEffect s (writeRawP j d s.takePins)
  | rawTWritten (hb : s.busy = false) (j : Fin 3) (d : Byte) (hp : s.presented = some (.wrRawt j d)) :
      EdgeEffect s (writeRawT j d s.takePins)

/-- An accepted or refused transaction of an idle block is one of the effects of an edge. -/
theorem ExecEffect.edgeEffect {i : Instr} {s t : State} (hr : s.pins.rst = false) (hb : s.busy = false)
    (hp : s.presented = some i) (h : ExecEffect i s.takePins t) : EdgeEffect s t := by
  cases h with
  | read a => exact .quiet hr hb s.err (s.rd a)
  | refused c => exact .quiet hr hb _ 0x00#8
  | same => exact .quiet hr hb s.err 0x00#8
  | committed _ hi hm => exact .calCommitted hb (hi ▸ hp) hm
  | cleared _ hi => exact .calCleared hb (hi ▸ hp)
  | errCleared => exact .quiet hr hb .none 0x00#8
  | startT _ hi hv => exact .startT hb (hi ▸ hp) hv
  | startP _ hi hv hf => exact .startP hb (hi ▸ hp) hv hf
  | startTp _ hi hv => exact .startTp hb (hi ▸ hp) hv
  | cal _ k d hi hv => exact .calWritten hb hv k d (hi ▸ hp)
  | rawP _ j d hi => exact .rawPWritten hb j d (hi ▸ hp)
  | rawT _ j d hi => exact .rawTWritten hb j d (hi ▸ hp)

theorem edge_effect_busy {s t : State} (hr : s.pins.rst = false) (hb : s.busy = true) (h : step s = .next t) :
    EdgeEffect s t := by
  by_cases hc : 1 < s.seqCnt.toNat
  · obtain ⟨e, r, ht⟩ := step_counts hr hb hc
    cases ht.symm.trans h
    exact .count hr hb hc e r
  · have ha : s.atCommit = true := (atCommit_eq_true s).2 ⟨hb, by omega⟩
    obtain ⟨e, r, ht⟩ := step_commits hr ha
    cases ht.symm.trans h
    exact .commit hr ha e r

theorem edge_effect {s t : State} (h : step s = .next t) : EdgeEffect s t := by
  rcases step_cases h with ⟨hr, rfl⟩ | ⟨hr, u, hu, rfl⟩
  · exact .reset hr
  · cases hb : s.busy with
    | true => exact edge_effect_busy hr hb h
    | false =>
      rw [sequencerPart_idle (by simpa using hb)]
      rcases hostPart_cases hu with ⟨-, rfl⟩ | ⟨hq, he⟩
      · exact .quiet hr hb s.err 0x00#8
      · exact (exec_effect he).edgeEffect hr hb (presented_eq_some hr hq)

/-- Settles O12, on the effects of an edge. -/
theorem edgeKeepsParametersAndTakesOneSetOfPins : Obligations.EdgeKeepsParametersAndTakesOneSetOfPins := by
  intro s t h
  cases edge_effect h with
  | commit hr ha e r =>
    obtain ⟨-, -, -, -, -, hin, -, hT, hP⟩ := commitOp_frame s.seqOp (s.quiet e r)
    exact ⟨hT, hP, hin⟩
  | _ => exact ⟨rfl, rfl, rfl⟩

/-! ## Runs: many edges -/

/-- A run of one edge more is a step and then the run. -/
theorem run_succ_next {n : Nat} {s t : State} (h : run (n + 1) s = .next t) :
    ∃ u, step s = .next u ∧ run n u = .next t := by
  obtain ⟨u, hu⟩ := step_answers s
  exact ⟨u, hu, run_succ hu ▸ h⟩

/-- What every edge keeps, every run keeps. -/
theorem run_keeps {P : State → Prop} (hstep : ∀ s t, P s → step s = .next t → P t) (n : Nat) {s t : State}
    (hs : P s) (h : run n s = .next t) : P t := by
  induction n generalizing s with
  | zero => cases h; exact hs
  | succ n ih =>
    obtain ⟨u, hu, hrun⟩ := run_succ_next h
    exact ih (hstep s u hs hu) hrun

/-- The edge at hand is among those that are no reset. -/
theorem State.noReset.pins {n : Nat} {s : State} (h : s.noReset (n + 1)) : s.pins.rst = false := by
  unfold State.pins
  cases hi : s.inputs with
  | nil => rfl
  | cons p rest => exact h p (by simp [hi])

theorem State.noReset.step {n : Nat} {s t : State} (h : s.noReset (n + 1)) (ht : t.inputs = s.inputs.tail) :
    t.noReset n := by
  intro p hp
  rw [ht] at hp
  cases hi : s.inputs with
  | nil => simp [hi] at hp
  | cons q rest => exact h p (by simp_all)

end Sys2Proof.Machine

/-! ## The status invariants (10_state.md R44) -/

namespace Sys2Proof.Machine

/-- One less than a count above 1 is the count's predecessor, and not 0. -/
theorem toNat_pred_of_one_lt {c : BitVec 9} (h : 1 < c.toNat) : (c - 1#9).toNat = c.toNat - 1 := by
  bv_omega

/-- A latency fits SEQ_CNT (00_scope.md R6, R22). -/
theorem toNat_ofNat_latency (l : Config.Latency) : (BitVec.ofNat 9 l.cycles).toNat = l.cycles := by
  have hl := l.legal
  simp only [BitVec.toNat_ofNat]
  omega

/-- A sum of two latencies fits SEQ_CNT (R22). -/
theorem toNat_ofNat_latTp (s : State) : (BitVec.ofNat 9 s.latTp).toNat = s.latTp := by
  have hT := s.latT.legal
  have hP := s.latP.legal
  simp only [BitVec.toNat_ofNat, State.latTp]
  omega

namespace StatusInv

theorem reset : StatusInv State.reset := by
  constructor <;> simp

theorem resetEdge (s : State) : StatusInv (resetEdge s) := { reset with }

variable {s : State}

theorem quiet (hs : StatusInv s) (e : ErrCode) (r : Byte) : StatusInv (s.quiet e r) := { hs with }

theorem takePins (hs : StatusInv s) : StatusInv s.takePins := { hs with }

/-- Clause (d) while a command counts down: above 1 the predecessor is not 0. -/
theorem counted (hs : StatusInv s) (hb : s.busy = true) (hc : 1 < s.seqCnt.toNat) (e : ErrCode) (r : Byte) :
    StatusInv (s.counted e r) :=
  { hs with
    idleIffCount := by
      have hop : s.seqOp ≠ .idle := by simpa using hb
      have hcnt : s.seqCnt - 1#9 ≠ 0#9 := by bv_omega
      simp [hop, hcnt] }

theorem storeT (hs : StatusInv s) (hv : s.calValid = true) (tf t : Int) : StatusInv (storeT tf t s) :=
  { hs with
    tfNeedsCal := fun _ => hv
    pNeedsTf := fun _ => rfl
    opPNeedsTf := fun _ => rfl }

theorem storeP (hs : StatusInv s) (hf : s.tfValid = true) (r : PressOutcome) : StatusInv (storeP r s) := by
  cases r with
  | guard => exact { hs with pNeedsTf := fun _ => hf, guardOrSat := by simp, guardNoNeg := by simp }
  | value p nd => exact { hs with pNeedsTf := fun _ => hf, guardOrSat := by simp, guardNoNeg := by simp }

theorem toIdle (hs : StatusInv s) : StatusInv (toIdle s) :=
  { hs with idleIffCount := by simp, opPNeedsTf := by simp, flightNeedsCal := by simp }

/-- A commit finds what its command's issue required: (e) says so. -/
theorem commitOp (hs : StatusInv s) : StatusInv (commitOp s.seqOp s) := by
  cases hop : s.seqOp with
  | idle => exact hs
  | opT => exact hs.storeT (hs.flightNeedsCal (by simp [hop])) _ _
  | opP => exact hs.storeP (hs.opPNeedsTf hop) _
  | opTp => exact (hs.storeT (hs.flightNeedsCal (by simp [hop])) _ _).storeP rfl _

theorem setCalValid (hs : StatusInv s) (hm : s.calMask = fullMask) : StatusInv (setCalValid s) :=
  { hs with
    validMaskFull := fun _ => hm
    tfNeedsCal := fun _ => rfl
    flightNeedsCal := fun _ => rfl }

theorem clearCal (hs : StatusInv s) (hb : s.busy = false) : StatusInv (clearCal s) := by
  have hop : s.seqOp = .idle := by simpa using hb
  exact { hs with
    validMaskFull := by simp
    tfNeedsCal := by simp
    pNeedsTf := by simp
    opPNeedsTf := by simp [hop]
    flightNeedsCal := by simp [hop] }

/-- Clauses (d) and (e) at issue: the command names itself with a positive count. -/
theorem startCommand (hs : StatusInv s) {op : SeqOp} {n : Nat} (hop : op ≠ .idle)
    (hn : 0 < (BitVec.ofNat 9 n).toNat) (hv : s.calValid = true) (hf : op = .opP → s.tfValid = true) :
    StatusInv (startCommand op n s) :=
  { hs with
    idleIffCount := by
      have hcnt : BitVec.ofNat 9 n ≠ 0#9 := by bv_omega
      simp [hop, hcnt]
    opPNeedsTf := hf
    flightNeedsCal := fun _ => hv }

theorem writeCal (hs : StatusInv s) (hv : s.calValid = false) (k : Fin 24) (d : Byte) :
    StatusInv (writeCal k d s) :=
  { hs with validMaskFull := by simp [hv] }

theorem writeRawP (hs : StatusInv s) (j : Fin 3) (d : Byte) : StatusInv (writeRawP j d s) :=
  { hs with pNeedsTf := by simp }

theorem writeRawT (hs : StatusInv s) (hb : s.busy = false) (j : Fin 3) (d : Byte) :
    StatusInv (writeRawT j d s) := by
  have hop : s.seqOp = .idle := by simpa using hb
  exact { hs with tfNeedsCal := by simp, pNeedsTf := by simp, opPNeedsTf := by simp [hop] }

/-- R44 over one effect of an edge. -/
theorem edge {t : State} (hs : StatusInv s) (h : EdgeEffect s t) : StatusInv t := by
  cases h with
  | reset hr => exact resetEdge _
  | quiet hr hb e r => exact hs.quiet e r
  | count hr hb hc e r => exact hs.counted hb hc e r
  | commit hr ha e r => exact (hs.quiet e r).commitOp.toIdle
  | calCommitted hb hp hm => exact hs.takePins.setCalValid hm
  | calCleared hb hp => exact hs.takePins.clearCal hb
  | startT hb hp hv =>
    have hn := s.latT.legal
    rw [← toNat_ofNat_latency] at hn
    exact hs.takePins.startCommand nofun hn.1 hv nofun
  | startP hb hp hv hf =>
    have hn := s.latP.legal
    rw [← toNat_ofNat_latency] at hn
    exact hs.takePins.startCommand nofun hn.1 hv (fun _ => hf)
  | startTp hb hp hv =>
    have hn : 0 < s.latTp := Nat.add_pos_left s.latT.legal.1 _
    rw [← toNat_ofNat_latTp] at hn
    exact hs.takePins.startCommand nofun hn hv nofun
  | calWritten hb hv k d hp => exact hs.takePins.writeCal hv k d
  | rawPWritten hb j d hp => exact hs.takePins.writeRawP j d
  | rawTWritten hb j d hp => exact hs.takePins.writeRawT hb j d

end StatusInv

/-- Settles O41, by the effects of an edge: each keeps the clauses. -/
theorem edgeKeepsTheStatusInvariants : Obligations.EdgeKeepsTheStatusInvariants :=
  fun _ _ hs h => hs.edge (edge_effect h)

/-- Settles O43, by induction on the number of edges: the reset state meets the clauses and every edge keeps them. -/
theorem reachableStatesSatisfyTheInvariants : Obligations.ReachableStatesSatisfyTheInvariants := by
  intro n pins lt lp t h
  have h0 : StatusInv { State.reset with inputs := pins, latT := lt, latP := lp } := { StatusInv.reset with }
  obtain ⟨hmask, htf, hp, hidle, hopP, hflight, hsat, hneg⟩ := run_keeps edgeKeepsTheStatusInvariants n h0 h
  exact ⟨hmask, htf, hp, hidle, hopP, hflight, hsat, hneg⟩

end Sys2Proof.Machine

/-! ## The ranges of the temperature stage (42_compensation.md R185) and of its registers (10_state.md R39, R40)

Each step of R171 is bounded by the step before it; the bounds of the two halves of `t_fine` add up to R185's range. -/

namespace Sys2Proof.Machine

section TemperatureBounds

variable {adcT : Int} {c : Cal}

/-! The equation of each step of R171, in the steps before it. -/

theorem tempSteps_aT2 : (tempSteps adcT c).aT2 = (tempSteps adcT c).a * c.t2 := rfl
theorem tempSteps_var1 : (tempSteps adcT c).var1 = asr (tempSteps adcT c).aT2 11 := rfl
theorem tempSteps_square : (tempSteps adcT c).square = (tempSteps adcT c).b * (tempSteps adcT c).b := rfl
theorem tempSteps_squareT3 : (tempSteps adcT c).squareT3 = asr (tempSteps adcT c).square 12 * c.t3 := rfl
theorem tempSteps_var2 : (tempSteps adcT c).var2 = asr (tempSteps adcT c).squareT3 14 := rfl
theorem tstage_fst : (tstage adcT c).1 = (tempSteps adcT c).var1 + (tempSteps adcT c).var2 := rfl
theorem tstage_snd : (tstage adcT c).2 = asr ((tstage adcT c).1 * 5 + 128) 8 := rfl

theorem tempSteps_a_bounds (ha : AdcInRange adcT) (hc : c.InRange) :
    -131070 ≤ (tempSteps adcT c).a ∧ (tempSteps adcT c).a ≤ 131071 := by
  obtain ⟨hlo, hhi⟩ := ha
  obtain ⟨hT1, hT1'⟩ := hc.t1
  have h := asr_bounds (a := adcT) (lo := 0) (hi := 131071) 3 (by omega) (by omega)
  simp only [tempSteps, shl_eq]
  omega

theorem tempSteps_aT2_bounds (ha : AdcInRange adcT) (hc : c.InRange) :
    -131071 * 32768 ≤ (tempSteps adcT c).aT2 ∧ (tempSteps adcT c).aT2 ≤ 131070 * 32768 := by
  obtain ⟨hlo, hhi⟩ := tempSteps_a_bounds ha hc
  obtain ⟨hT2, hT2'⟩ := hc.t2
  rw [tempSteps_aT2]
  rcases le_total 0 (tempSteps adcT c).a with h0 | h0
  · constructor <;> nlinarith
  · constructor <;> nlinarith

theorem tempSteps_var1_bounds (ha : AdcInRange adcT) (hc : c.InRange) :
    -2097136 ≤ (tempSteps adcT c).var1 ∧ (tempSteps adcT c).var1 ≤ 2097120 := by
  obtain ⟨hlo, hhi⟩ := tempSteps_aT2_bounds ha hc
  rw [tempSteps_var1]
  exact asr_bounds 11 (by omega) (by omega)

theorem tempSteps_b_bounds (ha : AdcInRange adcT) (hc : c.InRange) :
    -65535 ≤ (tempSteps adcT c).b ∧ (tempSteps adcT c).b ≤ 65535 := by
  obtain ⟨hlo, hhi⟩ := ha
  obtain ⟨hT1, hT1'⟩ := hc.t1
  have h := asr_bounds (a := adcT) (lo := 0) (hi := 65535) 4 (by omega) (by omega)
  simp only [tempSteps]
  omega

theorem tempSteps_square_bounds (ha : AdcInRange adcT) (hc : c.InRange) :
    0 ≤ (tempSteps adcT c).square ∧ (tempSteps adcT c).square ≤ 65535 * 65535 := by
  obtain ⟨hlo, hhi⟩ := tempSteps_b_bounds ha hc
  rw [tempSteps_square]
  constructor <;> nlinarith

theorem tempSteps_squareT3_bounds (ha : AdcInRange adcT) (hc : c.InRange) :
    -1048544 * 32768 ≤ (tempSteps adcT c).squareT3 ∧ (tempSteps adcT c).squareT3 ≤ 1048544 * 32767 := by
  obtain ⟨hlo, hhi⟩ := tempSteps_square_bounds ha hc
  obtain ⟨hT3, hT3'⟩ := hc.t3
  obtain ⟨h0, h1⟩ := asr_bounds (a := (tempSteps adcT c).square) (lo := 0) (hi := 1048544) 12 (by omega) (by omega)
  rw [tempSteps_squareT3]
  constructor <;> nlinarith

theorem tempSteps_var2_bounds (ha : AdcInRange adcT) (hc : c.InRange) :
    -2097088 ≤ (tempSteps adcT c).var2 ∧ (tempSteps adcT c).var2 ≤ 2097024 := by
  obtain ⟨hlo, hhi⟩ := tempSteps_squareT3_bounds ha hc
  rw [tempSteps_var2]
  exact asr_bounds 14 (by omega) (by omega)

theorem tstage_fst_inRange (ha : AdcInRange adcT) (hc : c.InRange) : TFineInRange (tstage adcT c).1 := by
  obtain ⟨h1, h1'⟩ := tempSteps_var1_bounds ha hc
  obtain ⟨h2, h2'⟩ := tempSteps_var2_bounds ha hc
  rw [TFineInRange, tstage_fst]
  omega

theorem tstage_snd_bounds (ha : AdcInRange adcT) (hc : c.InRange) :
    -81918 ≤ (tstage adcT c).2 ∧ (tstage adcT c).2 ≤ 81917 := by
  obtain ⟨hlo, hhi⟩ := tstage_fst_inRange ha hc
  rw [tstage_snd]
  exact asr_bounds 8 (by omega) (by omega)

end TemperatureBounds

/-- T_FINE holds the `t_fine` of a temperature stage exactly (R185). -/
theorem sext_enc32_tFine (s : State) : sext (enc32 (tstage s.adcT s.cal).1) = (tstage s.adcT s.cal).1 := by
  obtain ⟨hlo, hhi⟩ := tstage_fst_inRange (adcT_range s) (cal_inRange s)
  exact sext_enc32 (by omega) (by omega)

/-- TEMP holds the temperature of a temperature stage exactly (R185). -/
theorem sext_enc32_temp (s : State) : sext (enc32 (tstage s.adcT s.cal).2) = (tstage s.adcT s.cal).2 := by
  obtain ⟨hlo, hhi⟩ := tstage_snd_bounds (adcT_range s) (cal_inRange s)
  exact sext_enc32 (by omega) (by omega)

namespace RangeInv

theorem reset : RangeInv State.reset := by
  constructor <;> simp [sext]

theorem commitT (s : State) : RangeInv (commitT s) := by
  obtain ⟨htf, htf'⟩ := tstage_fst_inRange (adcT_range s) (cal_inRange s)
  obtain ⟨ht, ht'⟩ := tstage_snd_bounds (adcT_range s) (cal_inRange s)
  rw [← sext_enc32_tFine] at htf htf'
  rw [← sext_enc32_temp] at ht ht'
  exact ⟨htf, htf', ht, ht'⟩

theorem storeP {s : State} (hs : RangeInv s) (r : PressOutcome) : RangeInv (storeP r s) := by
  cases r with
  | guard => exact { hs with }
  | value p nd => exact { hs with }

theorem commitOp {s : State} (hs : RangeInv s) (op : SeqOp) : RangeInv (commitOp op s) := by
  cases op with
  | idle => exact hs
  | opT => exact commitT s
  | opP => exact hs.storeP _
  | opTp => exact (commitT s).storeP _

theorem edge {s t : State} (hs : RangeInv s) (h : EdgeEffect s t) : RangeInv t := by
  have hquiet (e : ErrCode) (r : Byte) : RangeInv (s.quiet e r) := { hs with }
  cases h with
  | reset => exact { reset with }
  | commit hr ha e r => exact { (hquiet e r).commitOp s.seqOp with }
  | _ => exact { hs with }

end RangeInv

/-- Settles O45: only a commit writes T_FINE and TEMP, and what it writes is in R185's ranges. -/
theorem edgeKeepsTheResultRanges : Obligations.EdgeKeepsTheResultRanges :=
  fun _ _ hs h => hs.edge (edge_effect h)

end Sys2Proof.Machine

/-! ## Commits, and what the valid flags mark (10_state.md R24, 42_compensation.md R180 to R183) -/

namespace Sys2Proof.Machine

@[simp] theorem storeP_cal (r : PressOutcome) (s : State) : (storeP r s).cal = s.cal := by cases r <;> rfl
@[simp] theorem storeP_adcT (r : PressOutcome) (s : State) : (storeP r s).adcT = s.adcT := by cases r <;> rfl
@[simp] theorem storeP_adcP (r : PressOutcome) (s : State) : (storeP r s).adcP = s.adcP := by cases r <;> rfl

@[simp] theorem storeP_pValid (r : PressOutcome) (s : State) : (storeP r s).pValid = true := by cases r <;> rfl

/-- A write of RAW_P leaves the temperature sample (10_state.md R42, R43). -/
@[simp] theorem writeRawP_adcT (j : Fin 3) (d : Byte) (s : State) : (writeRawP j d s).adcT = s.adcT := by
  have hj := j.isLt
  simp only [State.adcT, writeRawP_raw]
  rw [Vector.getElem_set_ne (by omega) (by omega) (by omega), Vector.getElem_set_ne (by omega) (by omega) (by omega),
    Vector.getElem_set_ne (by omega) (by omega) (by omega)]

@[simp] theorem writeRawP_cal (j : Fin 3) (d : Byte) (s : State) : (writeRawP j d s).cal = s.cal := rfl

/-- `STORE_P(r)` stores the outcome `r` (R182). -/
theorem holdsOutcome_storeP (r : PressOutcome) (s : State) : holdsOutcome (storeP r s) r := by
  cases r <;> exact ⟨rfl, rfl, rfl, rfl⟩

/-- COMP_TP's commit is COMP_T's and then COMP_P's, because T_FINE holds `t_fine` exactly (R183, R185). -/
theorem commitTp_eq (s : State) : commitTp s = commitP (commitT s) := by
  change _ = storeP (pstage s.adcP (sext (enc32 (tstage s.adcT s.cal).1)) s.cal) (commitT s)
  rw [sext_enc32_tFine]
  rfl

namespace ResultsCurrent

/-- Flags that are 0 say nothing. -/
theorem of_invalid {s : State} (hf : s.tfValid = false) (hp : s.pValid = false) : ResultsCurrent s where
  temperature := by simp [hf]
  pressure := by simp [hp]

variable {s : State}

theorem quiet (hs : ResultsCurrent s) (e : ErrCode) (r : Byte) : ResultsCurrent (s.quiet e r) := { hs with }

/-- COMP_T's commit recomputes the results that P_VALID rests on: with P_VALID = 1, T_FINE stays as it was. -/
theorem commitT (hi : StatusInv s) (hs : ResultsCurrent s) : ResultsCurrent (commitT s) where
  temperature := fun _ => ⟨rfl, rfl⟩
  pressure := fun hp => by
    have htf : s.tFine = (Machine.commitT s).tFine := (hs.temperature (hi.pNeedsTf hp)).1
    have h := hs.pressure hp
    rw [htf] at h
    exact h

theorem commitP (hs : ResultsCurrent s) : ResultsCurrent (commitP s) where
  temperature := by simpa [Machine.commitP] using hs.temperature
  pressure := fun _ => by
    simpa [Machine.commitP] using holdsOutcome_storeP (pstage s.adcP (sext s.tFine) s.cal) s

theorem commitOp (hi : StatusInv s) (hs : ResultsCurrent s) (op : SeqOp) : ResultsCurrent (commitOp op s) := by
  cases op with
  | idle => exact hs
  | opT => exact hs.commitT hi
  | opP => exact hs.commitP
  | opTp =>
    change ResultsCurrent (commitTp s)
    rw [commitTp_eq]
    exact (hs.commitT hi).commitP

theorem writeRawP (hs : ResultsCurrent s) (j : Fin 3) (d : Byte) : ResultsCurrent (writeRawP j d s) where
  temperature := by simpa using hs.temperature
  pressure := by simp

/-- A calibration write is accepted without a valid set only, and then no result is marked (R44 (b), (c)). -/
theorem writeCal (hi : StatusInv s) (hv : s.calValid = false) (k : Fin 24) (d : Byte) :
    ResultsCurrent (writeCal k d s) := by
  have hf : s.tfValid = false := by
    by_contra h
    simp [hi.tfNeedsCal (by simpa using h)] at hv
  have hp : s.pValid = false := by
    by_contra h
    simp [hi.pNeedsTf (by simpa using h)] at hf
  exact of_invalid hf hp

theorem edge {t : State} (hi : StatusInv s) (hs : ResultsCurrent s) (h : EdgeEffect s t) : ResultsCurrent t := by
  cases h with
  | reset | calCleared | rawTWritten => exact of_invalid rfl rfl
  | quiet hr hb e r => exact hs.quiet e r
  | commit hr ha e r => exact { (hs.quiet e r).commitOp (hi.quiet e r) s.seqOp with }
  | calWritten hb hv k d hp => exact writeCal hi.takePins hv k d
  | rawPWritten hb j d hp => exact writeRawP (hs.quiet s.err 0x00#8) j d
  | count | calCommitted | startT | startP | startTp => exact { hs with }

end ResultsCurrent

/-- Settles O46, by the effects of an edge: an operand changes only with its flags cleared, a commit stores what its
operands give. -/
theorem validFlagsMarkCurrentResults : Obligations.ValidFlagsMarkCurrentResults :=
  fun _ _ hi hs h => hs.edge hi (edge_effect h)

/-! ## A command in flight commits what its operands gave (10_state.md R45, 42_compensation.md R196) -/

namespace SameResults

variable {s t u : State}

theorem trans (h₁ : SameResults s t) (h₂ : SameResults t u) : SameResults s u :=
  ⟨h₁.tFine.trans h₂.tFine, h₁.temp.trans h₂.temp, h₁.press.trans h₂.press, h₁.tfValid.trans h₂.tfValid,
    h₁.pValid.trans h₂.pValid, h₁.divGuard.trans h₂.divGuard, h₁.pSat.trans h₂.pSat, h₁.negDiv.trans h₂.negDiv⟩

theorem storeT (h : SameResults s t) (tf x : Int) : SameResults (storeT tf x s) (storeT tf x t) :=
  { h with tFine := rfl, temp := rfl, tfValid := rfl }

theorem storeP (h : SameResults s t) (r : PressOutcome) : SameResults (storeP r s) (storeP r t) := by
  cases r <;> exact { h with press := rfl, pValid := rfl, divGuard := rfl, pSat := rfl, negDiv := rfl }

end SameResults

theorem SameOperands.trans {s t u : State} (h₁ : SameOperands s t) (h₂ : SameOperands t u) : SameOperands s u :=
  ⟨h₁.calByte.trans h₂.calByte, h₁.calMask.trans h₂.calMask, h₁.calValid.trans h₂.calValid, h₁.raw.trans h₂.raw⟩

theorem quiet_sameOperands (s : State) (e : ErrCode) (r : Byte) : SameOperands (s.quiet e r) s :=
  ⟨rfl, rfl, rfl, rfl⟩

theorem quiet_sameResults (s : State) (e : ErrCode) (r : Byte) : SameResults (s.quiet e r) s :=
  ⟨rfl, rfl, rfl, rfl, rfl, rfl, rfl, rfl⟩

theorem counted_sameOperands (s : State) (e : ErrCode) (r : Byte) : SameOperands (s.counted e r) s :=
  ⟨rfl, rfl, rfl, rfl⟩

theorem counted_sameResults (s : State) (e : ErrCode) (r : Byte) : SameResults (s.counted e r) s :=
  ⟨rfl, rfl, rfl, rfl, rfl, rfl, rfl, rfl⟩

/-- The calibration constants are read from the calibration bytes alone (10_state.md R35). -/
theorem SameOperands.cal {s t : State} (h : SameOperands s t) : s.cal = t.cal := by
  simp only [State.cal, State.calConst, State.calWord, h.calByte]

theorem SameOperands.adcT {s t : State} (h : SameOperands s t) : s.adcT = t.adcT := by
  simp only [State.adcT, h.raw]

theorem SameOperands.adcP {s t : State} (h : SameOperands s t) : s.adcP = t.adcP := by
  simp only [State.adcP, h.raw]

/-- A commit depends on the operands and the results held, and on nothing else of the state (R45). -/
theorem commitOp_sameResults {s t : State} (ho : SameOperands s t) (h : SameResults s t) (op : SeqOp) :
    SameResults (commitOp op s) (commitOp op t) := by
  cases op with
  | idle => exact h
  | opT =>
    simp only [commitOp, commitT, ho.adcT, ho.cal]
    exact h.storeT _ _
  | opP =>
    simp only [commitOp, commitP, ho.adcP, ho.cal, h.tFine]
    exact h.storeP _
  | opTp =>
    simp only [commitOp, commitTp, ho.adcT, ho.adcP, ho.cal]
    exact (h.storeT _ _).storeP _

/-- A commit leaves the operands (R196). -/
theorem commitOp_sameOperands (op : SeqOp) (s : State) : SameOperands (commitOp op s) s := by
  obtain ⟨-, hbyte, hmask, hvalid, hraw, -⟩ := commitOp_frame op s
  exact ⟨hbyte, hmask, hvalid, hraw⟩

/-- `t` is `s` once its command in flight is committed: an idle sequencer, the results of the commit on the operands of
`s`, and these operands. -/
structure Committed (s t : State) : Prop where
  seqOp : t.seqOp = .idle
  seqCnt : t.seqCnt = 0#9
  results : SameResults t (commitOp s.seqOp s)
  operands : SameOperands t s

theorem Committed.of_quiet (s : State) (e : ErrCode) (r : Byte) :
    Committed s (toIdle (commitOp s.seqOp (s.quiet e r))) where
  seqOp := rfl
  seqCnt := rfl
  results :=
    { commitOp_sameResults (quiet_sameOperands s e r) (quiet_sameResults s e r) s.seqOp with }
  operands := { commitOp_sameOperands s.seqOp (s.quiet e r) with }

/-- What is committed from a state one count later is what was committed from this one. -/
theorem Committed.of_count {s t : State} {e : ErrCode} {r : Byte}
    (h : Committed (s.counted e r) t) : Committed s t where
  seqOp := h.seqOp
  seqCnt := h.seqCnt
  results := h.results.trans (commitOp_sameResults (counted_sameOperands s e r) (counted_sameResults s e r) s.seqOp)
  operands := h.operands.trans (counted_sameOperands s e r)

/-- A command in flight with `n + 1` edges left is committed after them. -/
theorem run_commits (n : Nat) {s : State} (hb : s.busy = true) (hc : s.seqCnt.toNat = n + 1)
    (hr : s.noReset (n + 1)) : ∃ t, run (n + 1) s = .next t ∧ Committed s t := by
  induction n generalizing s with
  | zero =>
    obtain ⟨e, r, h⟩ := step_commits hr.pins ((atCommit_eq_true s).2 ⟨hb, hc.le⟩)
    exact ⟨_, run_succ h, .of_quiet s e r⟩
  | succ n ih =>
    obtain ⟨e, r, h⟩ := step_counts hr.pins hb (by omega)
    have hc' : (s.seqCnt - 1#9).toNat = n + 1 := by
      rw [toNat_pred_of_one_lt (by omega), hc, Nat.add_sub_cancel]
    obtain ⟨t, ht, hcom⟩ := ih (s := s.counted e r) hb hc' (hr.step rfl)
    exact ⟨t, (run_succ h).trans ht, hcom.of_count⟩

/-- Settles O55, by induction on the count: no edge before the last moves an operand or a result. -/
theorem commandCommitsWhatItsOperandsGave : Obligations.CommandCommitsWhatItsOperandsGave := by
  intro s hb hpos hr
  obtain ⟨n, hn⟩ := Nat.exists_eq_add_one.2 hpos
  rw [hn] at hr ⊢
  obtain ⟨t, ht, hidle, hcnt, hres, hops⟩ := run_commits n hb hn hr
  exact ⟨t, ht, hidle, hcnt, hres, hops⟩

end Sys2Proof.Machine

/-! ## The counter stays in its command's latency (10_state.md R22, 70_reset_and_hazards.md R262) -/

namespace Sys2Proof.Machine

/-- The latency of the command in flight, 0 when there is none (R262). -/
def State.flightLatency (s : State) : Nat :=
  match s.seqOp with
  | .idle => 0
  | .opT => s.latT.cycles
  | .opP => s.latP.cycles
  | .opTp => s.latTp

/-- R22's bound is one inequality. -/
theorem countInv_iff (s : State) : CountInv s ↔ s.seqCnt.toNat ≤ s.flightLatency := by
  have hnum (h : CountInv s) : s.seqCnt.toNat ≤ s.flightLatency := by
    unfold State.flightLatency
    split
    · next hop => exact (h.idle hop).le
    · next hop => exact h.opT hop
    · next hop => exact h.opP hop
    · next hop => exact h.opTp hop
  refine ⟨hnum, fun h => ?_⟩
  unfold State.flightLatency at h
  constructor <;> intro hop <;> rw [hop] at h
  · exact h
  · exact h
  · exact h
  · exact Nat.le_zero.1 h

/-- No latency exceeds 510 (R6, R22). -/
theorem flightLatency_le (s : State) : s.flightLatency ≤ 510 := by
  have hT := s.latT.legal
  have hP := s.latP.legal
  unfold State.flightLatency State.latTp
  split <;> omega

/-- A commit leaves SEQ_OP, SEQ_CNT to `toIdle`: the sequencer is idle with a count of 0 (R196). -/
theorem countInv_toIdle (s : State) : CountInv (toIdle s) :=
  (countInv_iff _).2 (Nat.zero_le _)

theorem CountInv.edge {s t : State} (hs : CountInv s) (h : EdgeEffect s t) : CountInv t := by
  cases h with
  | reset => exact countInv_toIdle (resetEdge s.takePins)
  | commit => exact countInv_toIdle _
  | count hr hb hc e r =>
    have hle : (s.counted e r).seqCnt.toNat ≤ s.seqCnt.toNat := by
      rw [counted_seqCnt, toNat_pred_of_one_lt hc]
      exact Nat.sub_le _ 1
    exact (countInv_iff _).2 (hle.trans ((countInv_iff s).1 hs))
  | startT => exact (countInv_iff _).2 (toNat_ofNat_latency s.latT).le
  | startP => exact (countInv_iff _).2 (toNat_ofNat_latency s.latP).le
  | startTp => exact (countInv_iff _).2 (toNat_ofNat_latTp s).le
  | _ => exact { hs with }

/-- Settles O44: an issue loads the latency, an edge counts down, a commit and a reset give 0. -/
theorem edgeKeepsTheCounterInItsLatency : Obligations.EdgeKeepsTheCounterInItsLatency := by
  intro s t hs h
  have ht : CountInv t := hs.edge (edge_effect h)
  exact ⟨ht, ((countInv_iff t).1 ht).trans (flightLatency_le t)⟩

/-! ## What changes a calibration byte, a flag or a result (10_state.md R26 to R31, R38 to R41) -/

/-- Settles O47: of the effects of an edge only a reset and a write with CAL_VALID = 0 move a calibration byte. -/
theorem calibrationIsImmutableWhileValid : Obligations.CalibrationIsImmutableWhileValid := by
  intro s hv
  refine ⟨fun t hr h => ?_, fun i d hb => ?_⟩
  · cases edge_effect h with
    | reset hr' => simp [hr] at hr'
    | calWritten hb hv' => simp [hv] at hv'
    | commit hr ha e r =>
      obtain ⟨-, hbyte, -⟩ := commitOp_frame s.seqOp (s.quiet e r)
      exact hbyte
    | _ => rfl
  · change execWrCal i d s = _
    rw [execWrCal, afterBusyCheck_idle hb, if_pos hv]
    rfl

/-- A flag that an edge leaves neither rises nor falls. -/
theorem unchanged_flag {b b' : Bool} {P Q : Prop} (h : b' = b) :
    (b = false → b' = true → P) ∧ (b = true → b' = false → Q) := by
  subst h
  cases b' <;> simp

/-- Settles O48, by the effects of an edge. -/
theorem calValidChangesOnlyByItsCommands : Obligations.CalValidChangesOnlyByItsCommands := by
  intro s t h
  cases edge_effect h with
  | reset hr => exact ⟨nofun, fun _ _ => .inl hr⟩
  | calCommitted hb hp hm => exact ⟨fun _ _ => ⟨hp, hb, hm⟩, nofun⟩
  | calCleared hb hp => exact ⟨nofun, fun _ _ => .inr ⟨hp, hb⟩⟩
  | commit hr ha e r =>
    obtain ⟨-, -, -, hvalid, -⟩ := commitOp_frame s.seqOp (s.quiet e r)
    exact unchanged_flag hvalid
  | _ => exact unchanged_flag rfl

/-- A commit with a temperature stage sets TF_VALID (42_compensation.md R180, R183). -/
theorem commitOp_tfValid {op : SeqOp} (hop : op = .opT ∨ op = .opTp) (s : State) :
    (commitOp op s).tfValid = true := by
  rcases hop with rfl | rfl
  · rfl
  · simp [commitOp, commitTp]

/-- A commit with a pressure stage sets P_VALID (R181, R183). -/
theorem commitOp_pValid {op : SeqOp} (hop : op = .opP ∨ op = .opTp) (s : State) :
    (commitOp op s).pValid = true := by
  rcases hop with rfl | rfl <;> exact storeP_pValid _ _

/-- A commit without a temperature stage leaves its results and its flag. -/
theorem commitOp_temperature_frame {op : SeqOp} (hop : ¬ (op = .opT ∨ op = .opTp)) (s : State) :
    (commitOp op s).tFine = s.tFine ∧ (commitOp op s).temp = s.temp ∧ (commitOp op s).tfValid = s.tfValid := by
  cases op with
  | idle => exact ⟨rfl, rfl, rfl⟩
  | opP => simp [commitOp, commitP]
  | opT | opTp => simp at hop

/-- A commit without a pressure stage leaves its results and its flags. -/
theorem commitOp_pressure_frame {op : SeqOp} (hop : ¬ (op = .opP ∨ op = .opTp)) (s : State) :
    (commitOp op s).press = s.press ∧ (commitOp op s).divGuard = s.divGuard ∧ (commitOp op s).pSat = s.pSat ∧
    (commitOp op s).negDiv = s.negDiv ∧ (commitOp op s).pValid = s.pValid := by
  cases op with
  | idle | opT => exact ⟨rfl, rfl, rfl, rfl, rfl⟩
  | opP | opTp => simp at hop

theorem tfValid_changes {s t : State} (h : EdgeEffect s t) :
    (s.tfValid = false → t.tfValid = true →
      s.pins.rst = false ∧ s.atCommit = true ∧ (s.seqOp = .opT ∨ s.seqOp = .opTp)) ∧
    (s.tfValid = true → t.tfValid = false →
      s.pins.rst = true ∨
      (s.busy = false ∧ (s.presented = some .calClear ∨ ∃ j d, s.presented = some (.wrRawt j d)))) := by
  cases h with
  | reset hr => exact ⟨nofun, fun _ _ => .inl hr⟩
  | commit hr ha e r =>
    by_cases hop : s.seqOp = .opT ∨ s.seqOp = .opTp
    · have hset := commitOp_tfValid hop (s.quiet e r)
      exact ⟨fun _ _ => ⟨hr, ha, hop⟩, fun _ hf => absurd (hset.symm.trans hf) nofun⟩
    · obtain ⟨-, -, hkeep⟩ := commitOp_temperature_frame hop (s.quiet e r)
      exact unchanged_flag hkeep
  | calCleared hb hp => exact ⟨nofun, fun _ _ => .inr ⟨hb, .inl hp⟩⟩
  | rawTWritten hb j d hp => exact ⟨nofun, fun _ _ => .inr ⟨hb, .inr ⟨j, d, hp⟩⟩⟩
  | _ => exact unchanged_flag rfl

theorem pValid_changes {s t : State} (h : EdgeEffect s t) :
    (s.pValid = false → t.pValid = true →
      s.pins.rst = false ∧ s.atCommit = true ∧ (s.seqOp = .opP ∨ s.seqOp = .opTp)) ∧
    (s.pValid = true → t.pValid = false →
      s.pins.rst = true ∨
      (s.busy = false ∧ (s.presented = some .calClear ∨ (∃ j d, s.presented = some (.wrRawt j d)) ∨
        ∃ j d, s.presented = some (.wrRawp j d)))) := by
  cases h with
  | reset hr => exact ⟨nofun, fun _ _ => .inl hr⟩
  | commit hr ha e r =>
    by_cases hop : s.seqOp = .opP ∨ s.seqOp = .opTp
    · have hset := commitOp_pValid hop (s.quiet e r)
      exact ⟨fun _ _ => ⟨hr, ha, hop⟩, fun _ hf => absurd (hset.symm.trans hf) nofun⟩
    · obtain ⟨-, -, -, -, hkeep⟩ := commitOp_pressure_frame hop (s.quiet e r)
      exact unchanged_flag hkeep
  | calCleared hb hp => exact ⟨nofun, fun _ _ => .inr ⟨hb, .inl hp⟩⟩
  | rawTWritten hb j d hp => exact ⟨nofun, fun _ _ => .inr ⟨hb, .inr (.inl ⟨j, d, hp⟩)⟩⟩
  | rawPWritten hb j d hp => exact ⟨nofun, fun _ _ => .inr ⟨hb, .inr (.inr ⟨j, d, hp⟩)⟩⟩
  | _ => exact unchanged_flag rfl

/-- Settles O49, flag by flag. -/
theorem resultValidFlagsChangeOnlyAsStated : Obligations.ResultValidFlagsChangeOnlyAsStated := by
  intro s t h
  obtain ⟨htRise, htFall⟩ := tfValid_changes (edge_effect h)
  obtain ⟨hpRise, hpFall⟩ := pValid_changes (edge_effect h)
  exact ⟨htRise, hpRise, htFall, hpFall⟩

/-- Settles O50: only a commit moves a result, and a commit without the stage leaves the stage's results. -/
theorem resultsChangeOnlyAtTheirCommit : Obligations.ResultsChangeOnlyAtTheirCommit := by
  intro s t h hr
  cases edge_effect h with
  | reset hr' => simp [hr] at hr'
  | commit hr ha e r =>
    refine ⟨fun hno => ?_, fun hno => ?_⟩
    · obtain ⟨hfine, htemp, -⟩ := commitOp_temperature_frame (fun hop => hno ⟨ha, hop⟩) (s.quiet e r)
      exact ⟨hfine, htemp⟩
    · obtain ⟨hpress, hguard, hsat, hneg, -⟩ := commitOp_pressure_frame (fun hop => hno ⟨ha, hop⟩) (s.quiet e r)
      exact ⟨hpress, hguard, hsat, hneg⟩
  | _ => exact ⟨fun _ => ⟨rfl, rfl⟩, fun _ => ⟨rfl, rfl, rfl, rfl⟩⟩

/-! ## STATUS and ERR, the samples and the calibration constants (10_state.md R24 to R36, R43) -/

@[simp] theorem rd_status (s : State) : s.rd 0x01#8 = s.statusByte := rfl
@[simp] theorem rd_err (s : State) : s.rd 0x02#8 = s.errByte := rfl

theorem busy_eq_decide (s : State) : s.busy = decide (s.seqOp ≠ .idle) := by
  rw [Bool.eq_iff_iff, busy_eq_true, decide_eq_true_iff]

theorem flagBit_getLsbD_zero (b : Bool) : (flagBit b).getLsbD 0 = b := by
  simp [flagBit]

/-- A flag appended to a pattern is its bit 0. -/
theorem append_flagBit_getLsbD_zero {n : Nat} (x : BitVec n) (b : Bool) : (x ++ flagBit b).getLsbD 0 = b := by
  rw [BitVec.getLsbD_append, if_pos Nat.zero_lt_one, flagBit_getLsbD_zero]

/-- A flag appended to a pattern moves its bits up by one. -/
theorem append_flagBit_getLsbD_succ {n : Nat} (x : BitVec n) (b : Bool) (k : Nat) :
    (x ++ flagBit b).getLsbD (k + 1) = x.getLsbD k := by
  rw [BitVec.getLsbD_append, if_neg (by omega), Nat.add_sub_cancel]

/-- STATUS bit by bit, bit 0 first (R24). -/
theorem statusByte_bits (s : State) :
    s.statusByte.getLsbD 0 = s.busy ∧ s.statusByte.getLsbD 1 = s.calValid ∧ s.statusByte.getLsbD 2 = s.tfValid ∧
    s.statusByte.getLsbD 3 = s.pValid ∧ s.statusByte.getLsbD 4 = s.divGuard ∧ s.statusByte.getLsbD 5 = s.pSat ∧
    s.statusByte.getLsbD 6 = s.negDiv ∧ s.statusByte.getLsbD 7 = s.errf := by
  unfold State.statusByte
  refine ⟨append_flagBit_getLsbD_zero _ _, ?_, ?_, ?_, ?_, ?_, ?_, ?_⟩ <;>
    simp only [append_flagBit_getLsbD_succ, append_flagBit_getLsbD_zero, flagBit_getLsbD_zero]

/-- ERRF shows whether the ERR byte is not 0 (R32). -/
theorem errf_eq_decide (s : State) : s.errf = decide (s.errByte ≠ 0x00#8) := by
  unfold State.errf State.errByte
  cases s.err <;> rfl

/-- Settles O14, bit by bit. -/
theorem statusAndErrBytes : Obligations.StatusAndErrBytes := by
  intro s
  obtain ⟨hbusy, hcal, htf, hp, hguard, hsat, hneg, herrf⟩ := statusByte_bits s
  refine ⟨hbusy.trans (busy_eq_decide s), hcal, htf, hp, hguard, hsat, hneg, herrf.trans (errf_eq_decide s), ?_⟩
  rw [rd_err, State.errByte]
  cases s.err <;> rfl

/-- Settles O36, by the assembly of a sample and its range. -/
theorem samplesAreTwentyBitsMsbFirst : Obligations.SamplesAreTwentyBitsMsbFirst := by
  intro s
  obtain ⟨hT, hT'⟩ := adcT_range s
  obtain ⟨hP, hP'⟩ := adcP_range s
  refine ⟨?_, ?_, hT, hT', hP, hP'⟩
  · simp [State.adcT, assembleAdc_eq]
  · simp [State.adcP, assembleAdc_eq]

/-- A calibration word from its two bytes, the byte at the odd address first (R35). -/
theorem calWord_toNat (s : State) (k : Fin 12) :
    (s.calWord k).toNat = 256 * s.calByte[2 * k.val + 1].toNat + s.calByte[2 * k.val].toNat := by
  have hlo := s.calByte[2 * k.val].isLt
  change (s.calByte[2 * k.val + 1] ++ s.calByte[2 * k.val]).toNat = _
  rw [BitVec.toNat_append, ← Nat.shiftLeft_add_eq_or_of_lt hlo, Nat.shiftLeft_eq]
  omega

/-- A 16-bit two's-complement word (R9, R35). -/
theorem sext_half (w : Half) : sext w = if w.toNat > 32767 then (w.toNat : Int) - 65536 else w.toNat := by
  have hw := w.isLt
  rw [sext, BitVec.toInt_eq_toNat_cond]
  split <;> split <;> omega

/-- Settles O37, constant by constant. -/
theorem calibrationConstantsFromTheirBytes : Obligations.CalibrationConstantsFromTheirBytes := by
  intro s k
  refine ⟨calWord_toNat s k, fun h => ?_, fun h => ?_, rfl⟩
  · rw [State.calConst, if_pos h, zext]
  · rw [State.calConst, if_neg h, sext_half]

/-! ## The reset state (10_state.md R47) -/

/-- Settles O1. -/
theorem resetStateHoldsTheResetValues : Obligations.ResetStateHoldsTheResetValues := by
  refine ⟨fun i => ?_, rfl, fun j => ?_, rfl, rfl, rfl, rfl, rfl, rfl, rfl, rfl, rfl, rfl, rfl, rfl, rfl, rfl⟩
  · simp
  · simp

/-- Settles O42: each of the four holds at reset. -/
theorem resetMeetsTheInvariants : Obligations.ResetMeetsTheInvariants :=
  ⟨StatusInv.reset, countInv_toIdle State.reset, RangeInv.reset, ResultsCurrent.of_invalid rfl rfl⟩

end Sys2Proof.Machine

/-! ## The register window (20_memory.md R65 to R69) -/

namespace Sys2Proof.Machine

/-- The address of byte `j` of the register at `c`. -/
theorem toNat_add_ofNat {c : Byte} {n : Nat} (j : Fin n) (h : c.toNat + n ≤ 256) :
    (c + BitVec.ofNat 8 j.val).toNat = c.toNat + j.val := by
  have hj := j.isLt
  rw [BitVec.toNat_add, BitVec.toNat_ofNat]
  omega

/-- A byte of a register is the register shifted down by whole bytes (R69). -/
theorem byteOf_eq {n : Nat} (x : BitVec n) (j : Nat) : byteOf x j = (x >>> (8 * j)).setWidth 8 :=
  BitVec.setWidth_ushiftRight_eq_extractLsb.symm

section WindowReads

/-! What a read returns, one lemma per row of R65's table. -/

variable (s : State) {a : Byte}

theorem rd_tFine (j : Fin 4) (ha : a.toNat = 0x04 + j.val) : s.rd a = byteOf s.tFine j.val := by
  simp (disch := omega) only [State.rd, if_neg, if_pos, ha, Nat.add_sub_cancel_left]

theorem rd_temp (j : Fin 4) (ha : a.toNat = 0x08 + j.val) : s.rd a = byteOf s.temp j.val := by
  simp (disch := omega) only [State.rd, if_neg, if_pos, ha, Nat.add_sub_cancel_left]

theorem rd_press (j : Fin 4) (ha : a.toNat = 0x0C + j.val) : s.rd a = byteOf s.press j.val := by
  simp (disch := omega) only [State.rd, if_neg, if_pos, ha, Nat.add_sub_cancel_left]

theorem rd_calMask (j : Fin 3) (ha : a.toNat = 0x10 + j.val) : s.rd a = byteOf s.calMask j.val := by
  simp (disch := omega) only [State.rd, if_neg, if_pos, ha, Nat.add_sub_cancel_left]

theorem rd_calByte (i : Fin 24) (ha : a.toNat = 0x88 + i.val) : s.rd a = s.calByte[i] := by
  simp (disch := omega) only [State.rd, if_neg, dif_pos, ha, Nat.add_sub_cancel_left, Fin.getElem_fin]

theorem rd_raw (k : Fin 6) (ha : a.toNat = 0xF7 + k.val) : s.rd a = s.raw[k] := by
  simp (disch := omega) only [State.rd, if_neg, dif_neg, dif_pos, ha, Nat.add_sub_cancel_left, Fin.getElem_fin]

theorem rd_reserved (ha : isRsvAddr a = true) : s.rd a = 0x00#8 := by
  simp only [isRsvAddr, Bool.or_eq_true, Bool.and_eq_true, beq_iff_eq, decide_eq_true_iff] at ha
  rcases ha with ((ha | ha) | ha) | ha <;> simp (disch := omega) only [State.rd, if_neg, if_pos, dif_neg]

end WindowReads

/-- Settles O13, row by row. -/
theorem windowReadTable : Obligations.WindowReadTable := by
  intro s
  refine ⟨rfl, fun j => ?_, fun j => ?_, fun j => ?_, fun j => ?_, fun i => ?_, fun k => ?_, fun a => rd_reserved s⟩
  · rw [← byteOf_eq, rd_tFine s j (toNat_add_ofNat j (by decide))]
  · rw [← byteOf_eq, rd_temp s j (toNat_add_ofNat j (by decide))]
  · rw [← byteOf_eq, rd_press s j (toNat_add_ofNat j (by decide))]
  · rw [← byteOf_eq, rd_calMask s j (toNat_add_ofNat j (by decide))]
  · exact rd_calByte s i (toNat_add_ofNat i (by decide))
  · exact rd_raw s k (toNat_add_ofNat k (by decide))

/-- The rows of R65's table, by their addresses. -/
inductive WindowRow (a : Byte) : Prop where
  | cmd (ha : a = 0x00#8)
  | status (ha : a = 0x01#8)
  | err (ha : a = 0x02#8)
  | tFine (j : Fin 4) (ha : a.toNat = 0x04 + j.val)
  | temp (j : Fin 4) (ha : a.toNat = 0x08 + j.val)
  | press (j : Fin 4) (ha : a.toNat = 0x0C + j.val)
  | calMask (j : Fin 3) (ha : a.toNat = 0x10 + j.val)
  | calByte (i : Fin 24) (ha : a.toNat = 0x88 + i.val)
  | raw (k : Fin 6) (ha : a.toNat = 0xF7 + k.val)
  | reserved (ha : isRsvAddr a = true)

theorem exists_fin_add {c n k : Nat} (h : c ≤ k ∧ k < c + n) : ∃ j : Fin n, k = c + j.val :=
  ⟨⟨k - c, by omega⟩, (Nat.add_sub_cancel' h.1).symm⟩

/-- Every address is in a row of the table (R65). -/
theorem windowRow (a : Byte) : WindowRow a := by
  by_cases hrsv : isRsvAddr a = true
  · exact .reserved hrsv
  have hrows : a = 0x00#8 ∨ a = 0x01#8 ∨ a = 0x02#8 ∨ (0x04 ≤ a.toNat ∧ a.toNat < 0x04 + 4) ∨
      (0x08 ≤ a.toNat ∧ a.toNat < 0x08 + 4) ∨ (0x0C ≤ a.toNat ∧ a.toNat < 0x0C + 4) ∨
      (0x10 ≤ a.toNat ∧ a.toNat < 0x10 + 3) ∨ (0x88 ≤ a.toNat ∧ a.toNat < 0x88 + 24) ∨
      (0xF7 ≤ a.toNat ∧ a.toNat < 0xF7 + 6) := by
    simp only [isRsvAddr, Bool.or_eq_true, Bool.and_eq_true, beq_iff_eq, decide_eq_true_iff] at hrsv
    simp only [← BitVec.toNat_inj, BitVec.toNat_ofNat]
    omega
  rcases hrows with h | h | h | h | h | h | h | h | h
  · exact .cmd h
  · exact .status h
  · exact .err h
  · exact (exists_fin_add h).elim .tFine
  · exact (exists_fin_add h).elim .temp
  · exact (exists_fin_add h).elim .press
  · exact (exists_fin_add h).elim .calMask
  · exact (exists_fin_add h).elim .calByte
  · exact (exists_fin_add h).elim .raw

/-- A read depends on the piece of the state its address selects, and on nothing else (R65). -/
theorem rd_congr {s t : State} {a : Byte} (hstatus : a = 0x01#8 → t.statusByte = s.statusByte) (herr : t.err = s.err)
    (hfine : t.tFine = s.tFine) (htemp : t.temp = s.temp) (hpress : t.press = s.press)
    (hmask : 0x10 ≤ a.toNat ∧ a.toNat ≤ 0x12 → t.calMask = s.calMask)
    (hcal : ∀ i : Fin 24, a.toNat = 0x88 + i.val → t.calByte[i] = s.calByte[i])
    (hraw : ∀ k : Fin 6, a.toNat = 0xF7 + k.val → t.raw[k] = s.raw[k]) : t.rd a = s.rd a := by
  cases windowRow a with
  | cmd ha => rw [ha]; rfl
  | status ha => rw [ha]; exact hstatus ha
  | err ha => rw [ha, rd_err, rd_err, State.errByte, State.errByte, herr]
  | tFine j ha => rw [rd_tFine t j ha, rd_tFine s j ha, hfine]
  | temp j ha => rw [rd_temp t j ha, rd_temp s j ha, htemp]
  | press j ha => rw [rd_press t j ha, rd_press s j ha, hpress]
  | calMask j ha => rw [rd_calMask t j ha, rd_calMask s j ha, hmask (by omega)]
  | calByte i ha => rw [rd_calByte t i ha, rd_calByte s i ha, hcal i ha]
  | raw k ha => rw [rd_raw t k ha, rd_raw s k ha, hraw k ha]
  | reserved ha => rw [rd_reserved t ha, rd_reserved s ha]

/-! ## The data writes through the window (R72; 40_host_access.md R122 to R124) -/

section DataWrites

variable {s t : State} {d : Byte}

theorem exec_wrCal_accepted (hb : s.busy = false) (hv : s.calValid = false) (i : Fin 24) (d : Byte) :
    exec (.wrCal i d) s = .next (writeCal i d s) := by
  rw [exec, execWrCal, afterBusyCheck_idle hb, hv, if_neg Bool.false_ne_true]

theorem exec_wrRawp_accepted (hb : s.busy = false) (j : Fin 3) (d : Byte) :
    exec (.wrRawp j d) s = .next (writeRawP j d s) := by
  rw [exec, execWrRawp, afterBusyCheck_idle hb]

theorem exec_wrRawt_accepted (hb : s.busy = false) (j : Fin 3) (d : Byte) :
    exec (.wrRawt j d) s = .next (writeRawT j d s) := by
  rw [exec, execWrRawt, afterBusyCheck_idle hb]

/-- A calibration write at `b` reads back there, and leaves what every other address reads but for CAL_MASK (R122). -/
theorem writeCal_rd {b : Byte} (i : Fin 24) (hb : b.toNat = 0x88 + i.val) :
    (writeCal i d s).rd b = d ∧
    ∀ a : Byte, a ≠ b → ¬ (0x10 ≤ a.toNat ∧ a.toNat ≤ 0x12) → (writeCal i d s).rd a = s.rd a := by
  refine ⟨(rd_calByte _ i hb).trans (Vector.getElem_set_self i.isLt), fun a hne hmask => ?_⟩
  refine rd_congr (fun _ => rfl) rfl rfl rfl rfl (fun h => absurd h hmask) (fun i' ha => ?_) (fun _ _ => rfl)
  exact Vector.getElem_set_ne i.isLt i'.isLt fun he => hne (BitVec.eq_of_toNat_eq (by omega))

/-- In `t` byte `k` of RAW is `d`, and nothing else a read shows outside STATUS differs from `s` (R123, R124). -/
structure RawWritten (k : Fin 6) (d : Byte) (s t : State) : Prop where
  raw : t.raw = s.raw.set k.val d
  err : t.err = s.err
  tFine : t.tFine = s.tFine
  temp : t.temp = s.temp
  press : t.press = s.press
  calMask : t.calMask = s.calMask
  calByte : t.calByte = s.calByte

/-- RAW_P is RAW[0..2] (10_state.md R42). -/
theorem rawWritten_writeRawP (j : Fin 3) : RawWritten (j.castAdd 3) d s (writeRawP j d s) :=
  ⟨rfl, rfl, rfl, rfl, rfl, rfl, rfl⟩

/-- RAW_T is RAW[3..5] (R42). -/
theorem rawWritten_writeRawT (j : Fin 3) : RawWritten (j.natAdd 3) d s (writeRawT j d s) :=
  ⟨rfl, rfl, rfl, rfl, rfl, rfl, rfl⟩

/-- A raw write at `b` reads back there, and leaves what every other address reads but for STATUS. -/
theorem RawWritten.rd {k : Fin 6} (h : RawWritten k d s t) {b : Byte} (hb : b.toNat = 0xF7 + k.val) :
    t.rd b = d ∧ ∀ a : Byte, a ≠ b → a ≠ 0x01#8 → t.rd a = s.rd a := by
  refine ⟨by simp [rd_raw t k hb, h.raw], fun a hne hstatus => ?_⟩
  refine rd_congr (fun ha => absurd ha hstatus) h.err h.tFine h.temp h.press (fun _ => h.calMask)
    (fun _ _ => by rw [h.calByte]) (fun k' ha => ?_)
  rw [h.raw]
  exact Vector.getElem_set_ne k.isLt k'.isLt fun he => hne (BitVec.eq_of_toNat_eq (by omega))

end DataWrites

/-- Settles O51: each accepted write is its update, whose reads are known. -/
theorem dataWritesLeaveTheRestOfTheWindow : Obligations.DataWritesLeaveTheRestOfTheWindow := by
  intro s t d hb
  refine ⟨fun i hv h => ?_, fun j h => ?_, fun j h => ?_⟩
  · cases (exec_wrCal_accepted hb hv i d).symm.trans h
    exact writeCal_rd i (toNat_add_ofNat i (by decide))
  · cases (exec_wrRawp_accepted hb j d).symm.trans h
    exact (rawWritten_writeRawP j).rd (toNat_add_ofNat j (by decide))
  · cases (exec_wrRawt_accepted hb j d).symm.trans h
    have hj : (0xFA#8 + BitVec.ofNat 8 j.val).toNat = 0xF7 + (j.natAdd 3).val := by
      rw [toNat_add_ofNat j (by decide), Fin.val_natAdd, ← Nat.add_assoc]
      rfl
    exact (rawWritten_writeRawT j).rd hj

/-! ## Repeated transactions and commits (R73) -/

theorem raiseError_raiseError (c : ErrCode) (s : State) : raiseError c (raiseError c s) = raiseError c s := by
  by_cases h : s.err = .none
  · simp [raiseError, h]
  · rw [raiseError_sticky h, raiseError_sticky h]

theorem writeCal_writeCal (i : Fin 24) (d : Byte) (s : State) : writeCal i d (writeCal i d s) = writeCal i d s := by
  simp [writeCal, BitVec.or_assoc]

theorem writeRawP_writeRawP (j : Fin 3) (d : Byte) (s : State) : writeRawP j d (writeRawP j d s) = writeRawP j d s := by
  simp [writeRawP]

theorem writeRawT_writeRawT (j : Fin 3) (d : Byte) (s : State) : writeRawT j d (writeRawT j d s) = writeRawT j d s := by
  simp [writeRawT]

theorem storeP_storeP (r : PressOutcome) (s : State) : storeP r (storeP r s) = storeP r s := by
  cases r <;> rfl

/-- The two stores of COMP_TP, made twice (42_compensation.md R183). -/
theorem storeP_storeT_storeP_storeT (r : PressOutcome) (tf x : Int) (s : State) :
    storeP r (storeT tf x (storeP r (storeT tf x s))) = storeP r (storeT tf x s) := by
  cases r <;> rfl

@[simp] theorem storeT_cal (tf x : Int) (s : State) : (storeT tf x s).cal = s.cal := rfl
@[simp] theorem storeT_adcT (tf x : Int) (s : State) : (storeT tf x s).adcT = s.adcT := rfl
@[simp] theorem storeT_adcP (tf x : Int) (s : State) : (storeT tf x s).adcP = s.adcP := rfl

/-- A rule that keeps an idle block idle and, run again at the state it left, answers that state. -/
def Repeatable (body : State → Result) : Prop :=
  ∀ s t : State, s.busy = false → body s = .next t → t.busy = false ∧ body t = .next t

namespace Repeatable

/-- A write whose own rule is repeatable is: BUSY and a recorded error stay (40_host_access.md R120). -/
theorem afterBusyCheck {body : State → Result} (hbody : Repeatable body) {s t : State}
    (h : afterBusyCheck s body = .next t) : Machine.afterBusyCheck t body = .next t := by
  rcases afterBusyCheck_next h with ⟨hb, rfl⟩ | ⟨hb, hnext⟩
  · rw [afterBusyCheck_busy (by simpa using hb), raiseError_raiseError]
  · obtain ⟨hidle, hagain⟩ := hbody s t hb hnext
    rw [afterBusyCheck_idle hidle, hagain]

/-- An idempotent update that leaves SEQ_OP. -/
theorem update {f : State → State} (hop : ∀ s, (f s).seqOp = s.seqOp) (hidem : ∀ s, f (f s) = f s) :
    Repeatable fun s => .next (f s) := by
  intro s t hb h
  cases h
  exact ⟨by simpa [hop] using hb, congrArg Host.Outcome.next (hidem s)⟩

theorem refuse (c : ErrCode) : Repeatable (refuse c) :=
  update (fun _ => rfl) (raiseError_raiseError c)

theorem calCommit : Repeatable fun s =>
    if s.calValid then .next s
    else if s.calMask = fullMask then .next (setCalValid s)
    else Machine.refuse .calIncomplete s := by
  intro s t hb h
  dsimp only at h ⊢
  split at h
  · next hv => cases h; exact ⟨hb, if_pos hv⟩
  · next hv =>
    split at h
    · next hm => cases h; exact ⟨by simpa using hb, if_pos rfl⟩
    · next hm =>
      obtain ⟨hidle, hagain⟩ := refuse _ s t hb h
      cases h
      exact ⟨hidle, (if_neg hv).trans ((if_neg hm).trans hagain)⟩

theorem wrCal (i : Fin 24) (d : Byte) : Repeatable fun s =>
    if s.calValid then Machine.refuse .calLocked s else .next (writeCal i d s) := by
  intro s t hb h
  dsimp only at h ⊢
  split at h
  · next hv =>
    obtain ⟨hidle, hagain⟩ := refuse _ s t hb h
    cases h
    exact ⟨hidle, (if_pos hv).trans hagain⟩
  · next hv =>
    cases h
    exact ⟨by simpa using hb, (if_neg hv).trans (congrArg Host.Outcome.next (writeCal_writeCal i d s))⟩

end Repeatable

/-- Every transaction but a compensation command leaves a state at which it answers that state (R73). -/
theorem exec_repeat {i : Instr} {s t : State} (hi : isCompensation i = false) (h : exec i s = .next t) :
    exec i t = .next t := by
  cases i with
  | rd a => cases h; rfl
  | nop => exact (Repeatable.update (f := id) (fun _ => rfl) (fun _ => rfl)).afterBusyCheck h
  | compT | compP | compTp => cases hi
  | calCommit => exact Repeatable.calCommit.afterBusyCheck h
  | calClear => exact (Repeatable.update (f := clearCal) (fun _ => rfl) (fun _ => rfl)).afterBusyCheck h
  | clrErr => exact (Repeatable.update (f := clearError) (fun _ => rfl) (fun _ => rfl)).afterBusyCheck h
  | cmdRsv d => exact (Repeatable.refuse .badCmd).afterBusyCheck h
  | wrRo a d | wrRsv a d => exact (Repeatable.refuse .badAddr).afterBusyCheck h
  | wrCal k d => exact (Repeatable.wrCal k d).afterBusyCheck h
  | wrRawp j d =>
    exact (Repeatable.update (f := writeRawP j d) (fun _ => rfl) (writeRawP_writeRawP j d)).afterBusyCheck h
  | wrRawt j d =>
    exact (Repeatable.update (f := writeRawT j d) (fun _ => rfl) (writeRawT_writeRawT j d)).afterBusyCheck h

/-- A commit writes nothing it reads but T_FINE, and COMP_TP's writes that again from the same sample (R45). -/
theorem commitOp_commitOp (op : SeqOp) (s : State) : commitOp op (commitOp op s) = commitOp op s := by
  cases op with
  | idle | opT => rfl
  | opP => simp [commitOp, commitP, storeP_storeP]
  | opTp => simp [commitOp, commitTp, storeP_storeT_storeP_storeT]

/-- Settles O52. -/
theorem repeatedTransactionsAreIdempotent : Obligations.RepeatedTransactionsAreIdempotent :=
  ⟨fun _ _ _ => exec_repeat, commitOp_commitOp⟩

/-! ## One edge: idle cycles, transactions and the `rdata` pin (R60 to R63, 42_compensation.md R196) -/

/-- An edge that presents a transaction is its `exec`, and then the sequencer's part (R62). -/
theorem step_of_exec {s t : State} (hr : s.pins.rst = false) (hq : s.pins.req = true)
    (h : exec (decodeTW s.pins.word) s.takePins = .next t) : step s = .next (sequencerPart s t) :=
  step_of_hostPart hr ((if_pos hq).trans h)

/-- An idle cycle is the sequencer's part alone (R62, 30_encoding.md R101). -/
theorem step_of_idleCycle {s : State} (hr : s.pins.rst = false) (hq : s.pins.req = false) :
    step s = .next (sequencerPart s s.takePins) :=
  step_of_hostPart hr (if_neg (by simp [hq]))

/-- The pins an edge takes are the oldest of the schedule (log entry 2). -/
theorem step_of_inputs {s t : State} {p : Pins} {rest : List Pins} (hin : s.inputs = p :: rest) (hr : p.rst = false)
    (hq : p.req = true) (h : exec (decodeTW p.word) { s with inputs := rest, rdata := 0x00#8 } = .next t) :
    step s = .next (sequencerPart s t) := by
  have hp : s.pins = p := by rw [State.pins, hin]
  have ht : s.takePins = { s with inputs := rest, rdata := 0x00#8 } := by rw [State.takePins, hin, List.tail_cons]
  refine step_of_exec (hp ▸ hr) (hp ▸ hq) ?_
  rwa [hp, ht]

/-- Settles O8: a word that `withFetchWord` places is the oldest of the schedule, and is the word decoded. -/
theorem stepRunsThePresentedTransaction : Obligations.StepRunsThePresentedTransaction := by
  intro s t i
  refine ⟨fun p rest hin hr hq hi h => step_of_inputs hin hr hq (hi ▸ h), fun w hi h => ?_⟩
  have hin : (s.withFetchWord 24 w.toNat).inputs = Pins.ofWord w :: s.inputs := by
    rw [State.withFetchWord, BitVec.ofNat_toNat, BitVec.setWidth_eq]
  refine step_of_inputs hin rfl rfl ?_
  rw [ofWord_word, hi]
  exact h

/-- Settles O9: the sequencer's part is its step when BUSY = 1 and nothing when BUSY = 0. -/
theorem idleCycleOnlyRunsTheSequencer : Obligations.IdleCycleOnlyRunsTheSequencer := by
  intro s hr hq
  have hstep := step_of_idleCycle hr hq
  refine ⟨fun hb => ?_, fun hb => ?_⟩
  · rwa [sequencerPart_idle hb] at hstep
  · rwa [sequencerPart_busy hb] at hstep

theorem decodeWrite_isWrite (a d : Byte) : (decodeWrite a d).isWrite = true := by
  unfold decodeWrite decodeCommand
  split_ifs <;> rfl

/-- Pins with `we = 0` present a read of their address, with `we = 1` a write (30_encoding.md R92, R93). -/
theorem decodeTW_word_read {p : Pins} (hw : p.we = false) : decodeTW p.word = .rd p.addr := by
  simp [decodeTW, Pins.word, hw]

theorem decodeTW_word_isWrite {p : Pins} (hw : p.we = true) : (decodeTW p.word).isWrite = true := by
  simp [decodeTW, Pins.word, hw, decodeWrite_isWrite]

/-- Only a read drives `rdata` (R60). -/
theorem exec_write_rdata {i : Instr} {s t : State} (hi : i.isWrite = true) (h : exec i s = .next t) :
    t.rdata = s.rdata := by
  cases exec_effect h with
  | read a hrd => rw [hrd] at hi; cases hi
  | _ => rfl

theorem sequencerPart_rdata (s t : State) : (sequencerPart s t).rdata = t.rdata := by
  obtain ⟨-, -, -, -, -, -, hrdata, -⟩ := sequencerStep_frame t
  unfold sequencerPart
  split
  · exact hrdata
  · rfl

/-- Settles O11: a reset edge, an idle cycle and a write leave the 0x00 of `takePins`, a read drives its byte, and the
sequencer leaves it. -/
theorem readReturnsTheByteBeforeTheEdge : Obligations.ReadReturnsTheByteBeforeTheEdge := by
  refine ⟨fun _ _ => rfl, fun s t h => ?_⟩
  rcases step_cases h with ⟨hr, rfl⟩ | ⟨hr, u, hu, rfl⟩
  · simp [hr, resetEdge]
  · rw [sequencerPart_rdata]
    rcases hostPart_cases hu with ⟨hq, rfl⟩ | ⟨hq, he⟩
    · simp [hq]
    · cases hw : s.pins.we with
      | true => simpa using exec_write_rdata (decodeTW_word_isWrite hw) he
      | false =>
        rw [decodeTW_word_read hw] at he
        cases he
        simp [hr, hq]

end Sys2Proof.Machine

/-! ## Decode and encode (30_encoding.md R90 to R97) -/

namespace Sys2Proof

/-- The three fields of every instruction's word (R90). -/
theorem Laws.EncodeFields.statement : ∀ i : Instr, Laws.EncodeFields.Statement i
  | .rd a => rd a
  | .nop => nop
  | .compT => compT
  | .compP => compP
  | .compTp => compTp
  | .calCommit => calCommit
  | .calClear => calClear
  | .clrErr => clrErr
  | .cmdRsv d => cmdRsv d
  | .wrRo a d => wrRo a d
  | .wrCal i d => wrCal i d
  | .wrRawp j d => wrRawp j d
  | .wrRawt j d => wrRawt j d
  | .wrRsv a d => wrRsv a d

theorem encode_eq_mkTW (i : Instr) : encode i = mkTW (BitVec.ofBool i.isWrite) i.addr i.data := by
  obtain ⟨hw, ha, hd⟩ := Laws.EncodeFields.statement i
  rw [← hw, ← ha, ← hd, mkTW_fields]

theorem isRoAddr_iff (a : Byte) :
    isRoAddr a = true ↔ a.toNat = 0x01 ∨ a.toNat = 0x02 ∨ (0x04 ≤ a.toNat ∧ a.toNat ≤ 0x12) := by
  simp [isRoAddr, or_assoc]

theorem isRsvAddr_iff (a : Byte) :
    isRsvAddr a = true ↔ a.toNat = 0x03 ∨ (0x13 ≤ a.toNat ∧ a.toNat ≤ 0x87) ∨ (0xA0 ≤ a.toNat ∧ a.toNat ≤ 0xF6) ∨
      (0xFD ≤ a.toNat ∧ a.toNat ≤ 0xFF) := by
  simp [isRsvAddr, or_assoc]

theorem isRsvCode_iff (d : Byte) :
    isRsvCode d = true ↔ (0x04 ≤ d.toNat ∧ d.toNat ≤ 0x0F) ∨ (0x12 ≤ d.toNat ∧ d.toNat ≤ 0x1F) ∨
      (0x21 ≤ d.toNat ∧ d.toNat ≤ 0xFF) := by
  simp [isRsvCode, or_assoc]

/-- A byte is a literal exactly when its number is (R95). -/
theorem byte_eq_iff (a : Byte) (n : Nat) : a = BitVec.ofNat 8 n ↔ a.toNat = n % 256 := by
  rw [← BitVec.toNat_inj, BitVec.toNat_ofNat]

section DecodeByClass

/-! What a write word decodes to, one lemma per address class (R94) and one for the reserved codes (R97). -/

variable {a d : Byte}

theorem decodeTW_read (a d : Byte) : decodeTW (mkTW 0#1 a d) = .rd a := by
  simp [decodeTW]

theorem decodeTW_write (a d : Byte) : decodeTW (mkTW 1#1 a d) = decodeWrite a d := by
  simp [decodeTW]

theorem decodeWrite_cmd (d : Byte) : decodeWrite 0x00#8 d = decodeCommand d := rfl

theorem decodeWrite_ro (ha : isRoAddr a = true) : decodeWrite a d = .wrRo a d := by
  rw [isRoAddr_iff] at ha
  simp only [decodeWrite, byte_eq_iff]
  rw [if_neg (by omega), if_pos (by omega)]

theorem decodeWrite_rsv (ha : isRsvAddr a = true) : decodeWrite a d = .wrRsv a d := by
  rw [isRsvAddr_iff] at ha
  simp only [decodeWrite, byte_eq_iff]
  rw [if_neg (by omega), if_neg (by omega), dif_neg (by omega), dif_neg (by omega), dif_neg (by omega)]

theorem decodeWrite_cal (i : Fin 24) (ha : a.toNat = 0x88 + i.val) : decodeWrite a d = .wrCal i d := by
  have hi := i.isLt
  simp only [decodeWrite, byte_eq_iff]
  rw [if_neg (by omega), if_neg (by omega), dif_pos (by omega)]
  simp [ha]

theorem decodeWrite_rawp (j : Fin 3) (ha : a.toNat = 0xF7 + j.val) : decodeWrite a d = .wrRawp j d := by
  have hj := j.isLt
  simp only [decodeWrite, byte_eq_iff]
  rw [if_neg (by omega), if_neg (by omega), dif_neg (by omega), dif_pos (by omega)]
  simp [ha]

theorem decodeWrite_rawt (j : Fin 3) (ha : a.toNat = 0xFA + j.val) : decodeWrite a d = .wrRawt j d := by
  have hj := j.isLt
  simp only [decodeWrite, byte_eq_iff]
  rw [if_neg (by omega), if_neg (by omega), dif_neg (by omega), dif_neg (by omega), dif_pos (by omega)]
  simp [ha]

theorem decodeCommand_reserved (hd : isRsvCode d = true) : decodeCommand d = .cmdRsv d := by
  rw [isRsvCode_iff] at hd
  simp only [decodeCommand, byte_eq_iff]
  simp (disch := omega) only [if_neg]

end DecodeByClass

/-- The address classes of a write (R94). -/
inductive AddrClass (a : Byte) : Prop where
  | cmd (ha : a = 0x00#8)
  | ro (ha : isRoAddr a = true)
  | cal (i : Fin 24) (ha : a.toNat = 0x88 + i.val)
  | rawp (j : Fin 3) (ha : a.toNat = 0xF7 + j.val)
  | rawt (j : Fin 3) (ha : a.toNat = 0xFA + j.val)
  | rsv (ha : isRsvAddr a = true)

/-- Every address is in a class (R94). -/
theorem addrClass (a : Byte) : AddrClass a := by
  by_cases hro : isRoAddr a = true
  · exact .ro hro
  by_cases hrsv : isRsvAddr a = true
  · exact .rsv hrsv
  have hrest : a = 0x00#8 ∨ (0x88 ≤ a.toNat ∧ a.toNat < 0x88 + 24) ∨ (0xF7 ≤ a.toNat ∧ a.toNat < 0xF7 + 3) ∨
      (0xFA ≤ a.toNat ∧ a.toNat < 0xFA + 3) := by
    rw [isRoAddr_iff] at hro
    rw [isRsvAddr_iff] at hrsv
    rw [byte_eq_iff]
    omega
  rcases hrest with h | h | h | h
  · exact .cmd h
  · exact (Machine.exists_fin_add h).elim .cal
  · exact (Machine.exists_fin_add h).elim .rawp
  · exact (Machine.exists_fin_add h).elim .rawt

/-- A command byte is reserved, or one of the seven codes (R96, R97). -/
theorem isRsvCode_or_code (d : Byte) :
    isRsvCode d = true ∨ d = 0x00#8 ∨ d = 0x01#8 ∨ d = 0x02#8 ∨ d = 0x03#8 ∨ d = 0x10#8 ∨ d = 0x11#8 ∨ d = 0x20#8 := by
  simp only [isRsvCode_iff, byte_eq_iff]
  omega

/-- `i` is a well-formed write of the byte `d` at the address `a`. -/
structure WriteAt (a d : Byte) (i : Instr) : Prop where
  wf : i.wf = true
  isWrite : i.isWrite = true
  addr : i.addr = a
  data : i.data = d

theorem writeAt_decodeCommand (d : Byte) : WriteAt 0x00#8 d (decodeCommand d) := by
  rcases isRsvCode_or_code d with hd | rfl | rfl | rfl | rfl | rfl | rfl | rfl
  · rw [decodeCommand_reserved hd]
    exact ⟨hd, rfl, rfl, rfl⟩
  all_goals exact ⟨rfl, rfl, rfl, rfl⟩

/-- The address of a register of a file, from its number. -/
theorem add_ofNat_eq {a c : Byte} {n : Nat} (j : Fin n) (hc : c.toNat + n ≤ 256) (ha : a.toNat = c.toNat + j.val) :
    c + BitVec.ofNat 8 j.val = a :=
  BitVec.eq_of_toNat_eq ((Machine.toNat_add_ofNat j hc).trans ha.symm)

/-- No write word is without an instruction, and none loses its address or its byte (R93). -/
theorem writeAt_decodeWrite (a d : Byte) : WriteAt a d (decodeWrite a d) := by
  cases addrClass a with
  | cmd ha => rw [ha, decodeWrite_cmd]; exact writeAt_decodeCommand d
  | ro ha => rw [decodeWrite_ro ha]; exact ⟨ha, rfl, rfl, rfl⟩
  | cal i ha => rw [decodeWrite_cal i ha]; exact ⟨rfl, rfl, add_ofNat_eq i (by decide) ha, rfl⟩
  | rawp j ha => rw [decodeWrite_rawp j ha]; exact ⟨rfl, rfl, add_ofNat_eq j (by decide) ha, rfl⟩
  | rawt j ha => rw [decodeWrite_rawt j ha]; exact ⟨rfl, rfl, add_ofNat_eq j (by decide) ha, rfl⟩
  | rsv ha => rw [decodeWrite_rsv ha]; exact ⟨ha, rfl, rfl, rfl⟩

/-- A well-formed write is what its address and its byte decode to (R93). -/
theorem decodeWrite_addr_data {i : Instr} (hi : i.wf = true) (hw : i.isWrite = true) :
    decodeWrite i.addr i.data = i := by
  cases i with
  | rd a => cases hw
  | nop | compT | compP | compTp | calCommit | calClear | clrErr => rfl
  | cmdRsv d => exact decodeCommand_reserved hi
  | wrRo a d => exact decodeWrite_ro hi
  | wrCal i d => exact decodeWrite_cal i (Machine.toNat_add_ofNat i (by decide))
  | wrRawp j d => exact decodeWrite_rawp j (Machine.toNat_add_ofNat j (by decide))
  | wrRawt j d => exact decodeWrite_rawt j (Machine.toNat_add_ofNat j (by decide))
  | wrRsv a d => exact decodeWrite_rsv hi

/-- A transaction word is a read word or a write word (R90). -/
theorem eq_read_or_write (w : TW) : ∃ a d, w = mkTW 0#1 a d ∨ w = mkTW 1#1 a d := by
  refine ⟨twA w, twD w, ?_⟩
  rcases BitVec.eq_zero_or_eq_one (twW w) with h | h
  · exact .inl (h ▸ (mkTW_fields w).symm)
  · exact .inr (h ▸ (mkTW_fields w).symm)

/-- Settles O3: a read keeps its address, and a write is what its address and byte decode to. -/
theorem decodeOfEncodeIsTheInstruction : Obligations.DecodeOfEncodeIsTheInstruction := by
  intro i hi
  rw [encode_eq_mkTW]
  cases hw : i.isWrite with
  | false =>
    cases i with
    | rd a => exact decodeTW_read a _
    | _ => cases hw
  | true => exact (decodeTW_write _ _).trans (decodeWrite_addr_data hi hw)

/-- Settles O5: the decoded write is at the word's address with the word's byte. -/
theorem encodeOfDecodeIsTheWord : Obligations.EncodeOfDecodeIsTheWord := by
  intro w
  obtain ⟨a, d, rfl | rfl⟩ := eq_read_or_write w
  · rw [decodeTW_read, twW_mkTW, twA_mkTW, if_neg (by decide), encode]
  · obtain ⟨-, hw, ha, hd⟩ := writeAt_decodeWrite a d
    rw [decodeTW_write, twW_mkTW, if_pos rfl, encode_eq_mkTW, hw, ha, hd]
    rfl

/-- Settles O4: a read word decodes to RD, a write word to a well-formed write. -/
theorem everyWordDecodesToAWellFormedInstruction : Obligations.EveryWordDecodesToAWellFormedInstruction := by
  intro w
  obtain ⟨a, d, rfl | rfl⟩ := eq_read_or_write w
  · rw [decodeTW_read, twW_mkTW]
    exact ⟨rfl, iff_of_false Bool.false_ne_true (by decide)⟩
  · obtain ⟨hwf, hw, -, -⟩ := writeAt_decodeWrite a d
    rw [decodeTW_write, twW_mkTW]
    exact ⟨hwf, iff_of_true hw rfl⟩

/-! ## How many addresses and codes there are of each class (R94, R97) -/

section ClassSizes

open Finset

/-- An interval below a set adds its length to the set's size. -/
theorem card_Icc_union {lo hi : Nat} {S : Finset Nat} (h : ∀ n ∈ S, hi < n) :
    (Icc lo hi ∪ S).card = hi + 1 - lo + S.card := by
  rw [card_union_of_disjoint, Nat.card_Icc]
  refine disjoint_left.2 fun n hn hS => ?_
  exact absurd (mem_Icc.1 hn).2 (Nat.not_le.2 (h n hS))

/-- The number of bytes in a class is the size of the set of their numbers. -/
theorem length_filter_bytes {p : Byte → Bool} {S : Finset Nat}
    (h : ∀ n, n < 256 ∧ p (BitVec.ofNat 8 n) = true ↔ n ∈ S) :
    ((List.range 256).filter fun n => p (BitVec.ofNat 8 n)).length = S.card := by
  rw [← List.toFinset_card_of_nodup (List.nodup_range.filter _)]
  congr 1
  ext n
  rw [List.mem_toFinset, List.mem_filter, List.mem_range, h]

theorem length_filter_isRoAddr : ((List.range 256).filter fun n => isRoAddr (BitVec.ofNat 8 n)).length = 17 := by
  rw [length_filter_bytes (S := Icc 0x01 0x02 ∪ Icc 0x04 0x12)]
  · rw [card_Icc_union (by simp only [mem_Icc]; omega), Nat.card_Icc]
  · simp only [isRoAddr_iff, BitVec.toNat_ofNat, mem_union, mem_Icc]
    omega

theorem length_filter_isRsvAddr : ((List.range 256).filter fun n => isRsvAddr (BitVec.ofNat 8 n)).length = 208 := by
  rw [length_filter_bytes (S := Icc 0x03 0x03 ∪ (Icc 0x13 0x87 ∪ (Icc 0xA0 0xF6 ∪ Icc 0xFD 0xFF)))]
  · repeat rw [card_Icc_union (by simp only [mem_union, mem_Icc]; omega)]
    rw [Nat.card_Icc]
  · simp only [isRsvAddr_iff, BitVec.toNat_ofNat, mem_union, mem_Icc]
    omega

theorem length_filter_isRsvCode : ((List.range 256).filter fun n => isRsvCode (BitVec.ofNat 8 n)).length = 249 := by
  rw [length_filter_bytes (S := Icc 0x04 0x0F ∪ (Icc 0x12 0x1F ∪ Icc 0x21 0xFF))]
  · repeat rw [card_Icc_union (by simp only [mem_union, mem_Icc]; omega)]
    rw [Nat.card_Icc]
  · simp only [isRsvCode_iff, BitVec.toNat_ofNat, mem_union, mem_Icc]
    omega

end ClassSizes

/-- Settles O6: each class decodes to its instruction, and the classes are unions of intervals. -/
theorem addressClassesSelectTheInstruction : Obligations.AddressClassesSelectTheInstruction := by
  refine ⟨fun a d => ?_, length_filter_isRoAddr, length_filter_isRsvAddr, length_filter_isRsvCode⟩
  simp only [decodeTW_write]
  refine ⟨decodeWrite_ro, decodeWrite_rsv, decodeCommand_reserved, fun i => ?_, fun j => ?_, fun j => ?_⟩
  · exact decodeWrite_cal i (Machine.toNat_add_ofNat i (by decide))
  · exact decodeWrite_rawp j (Machine.toNat_add_ofNat j (by decide))
  · exact decodeWrite_rawt j (Machine.toNat_add_ofNat j (by decide))

end Sys2Proof

/-! ## Reads (40_host_access.md R121) -/

namespace Sys2Proof.Machine

/-- Settles O18: `encode` and `exec` of RD are their definitions, CMD is the first row of the window. -/
theorem rdReturnsTheWindowByte : Obligations.RdReturnsTheWindowByte := by
  intro a d s
  exact ⟨rfl, decodeTW_read a d, rfl, rfl, rd_reserved s⟩

/-! ## The pseudo-instructions of R100 -/

theorem exec_calCommit_accepted {s : State} (hb : s.busy = false) (hv : s.calValid = false) (hm : s.calMask = fullMask) :
    exec .calCommit s = .next (setCalValid s) := by
  rw [exec, execCalCommit, afterBusyCheck_idle hb, hv, if_neg Bool.false_ne_true, if_pos hm]

section PresentedWords

variable {s : State} {ws : List TW} {a : Byte}

/-- On an idle block the first word presented runs alone at its edge (20_memory.md R62). -/
theorem run_present_cons {w : TW} {t : State} (n : Nat) (hb : s.busy = false)
    (h : exec (decodeTW w) ((driveRdata 0x00#8 s).present ws) = .next (t.present ws)) :
    run (n + 1) (s.present (w :: ws)) = run n (t.present ws) := by
  have hstep := step_of_inputs (s := s.present (w :: ws)) (p := Pins.ofWord w) rfl rfl rfl (ofWord_word w ▸ h)
  rw [sequencerPart_idle (s := s.present (w :: ws)) hb] at hstep
  exact run_succ hstep

theorem run_wrCal (n : Nat) (hb : s.busy = false) (hv : s.calValid = false) (i : Fin 24) (ha : a.toNat = 0x88 + i.val)
    (d : Byte) :
    run (n + 1) (s.present (asmWr a d :: ws)) = run n ((writeCal i d (driveRdata 0x00#8 s)).present ws) := by
  refine run_present_cons n hb ?_
  rw [asmWr, decodeTW_write, decodeWrite_cal i ha]
  exact exec_wrCal_accepted (s := (driveRdata 0x00#8 s).present ws) hb hv i d

theorem run_wrRawp (n : Nat) (hb : s.busy = false) (j : Fin 3) (ha : a.toNat = 0xF7 + j.val) (d : Byte) :
    run (n + 1) (s.present (asmWr a d :: ws)) = run n ((writeRawP j d (driveRdata 0x00#8 s)).present ws) := by
  refine run_present_cons n hb ?_
  rw [asmWr, decodeTW_write, decodeWrite_rawp j ha]
  exact exec_wrRawp_accepted (s := (driveRdata 0x00#8 s).present ws) hb j d

theorem run_wrRawt (n : Nat) (hb : s.busy = false) (j : Fin 3) (ha : a.toNat = 0xFA + j.val) (d : Byte) :
    run (n + 1) (s.present (asmWr a d :: ws)) = run n ((writeRawT j d (driveRdata 0x00#8 s)).present ws) := by
  refine run_present_cons n hb ?_
  rw [asmWr, decodeTW_write, decodeWrite_rawt j ha]
  exact exec_wrRawt_accepted (s := (driveRdata 0x00#8 s).present ws) hb j d

theorem run_calCommit (n : Nat) (hb : s.busy = false) (hv : s.calValid = false) (hm : s.calMask = fullMask) :
    run (n + 1) (s.present (asmCmd codeCalCommit :: ws)) =
      run n ((setCalValid (driveRdata 0x00#8 s)).present ws) := by
  refine run_present_cons n hb ?_
  rw [asmCmd, decodeTW_write]
  exact exec_calCommit_accepted (s := (driveRdata 0x00#8 s).present ws) hb hv hm

end PresentedWords

/-- The three bytes of `wrraw_t`, each at an edge of its own. -/
theorem run_wrrawT {s : State} (hb : s.busy = false) (m l x : Byte) :
    run 3 (s.present (asmWrrawT m l x)) =
      .next (writeRawT 2 x (writeRawT 1 l (writeRawT 0 m (driveRdata 0x00#8 s)))) := by
  rw [asmWrrawT, run_wrRawt 2 hb 0 rfl, run_wrRawt 1 ?_ 1 rfl, run_wrRawt 0 ?_ 2 rfl]
  · rfl
  · exact hb
  · exact hb

/-- The three bytes of `wrraw_p`, each at an edge of its own. -/
theorem run_wrrawP {s : State} (hb : s.busy = false) (m l x : Byte) :
    run 3 (s.present (asmWrrawP m l x)) =
      .next (writeRawP 2 x (writeRawP 1 l (writeRawP 0 m (driveRdata 0x00#8 s)))) := by
  rw [asmWrrawP, run_wrRawp 2 hb 0 rfl, run_wrRawp 1 ?_ 1 rfl, run_wrRawp 0 ?_ 2 rfl]
  · rfl
  · exact hb
  · exact hb

/-- Settles O59: the three writes fill the sample's bytes and clear the flags each of them clears. -/
theorem wrrawSetsTheSample : Obligations.WrrawSetsTheSample := by
  intro s m l x hb
  refine ⟨⟨_, run_wrrawT hb m l x, ?_, ?_, rfl, rfl⟩, ⟨_, run_wrrawP hb m l x, ?_, ?_, rfl, rfl⟩⟩
  all_goals simp [State.adcT, State.adcP, assembleAdc_eq]

/-! ### `calload` (R100) -/

/-- Word `k` of the set, its low byte first (20_memory.md R67). -/
def writeCalWord (k : Fin 12) (w : Half) (s : State) : State :=
  writeCal ⟨2 * k.val + 1, by omega⟩ (w.extractLsb' 8 8) (writeCal ⟨2 * k.val, by omega⟩ (w.extractLsb' 0 8) s)

theorem run_wr16 {s : State} {ws : List TW} (n : Nat) (hb : s.busy = false) (hv : s.calValid = false) (k : Fin 12)
    (w : Half) :
    run (n + 2) (s.present (asmWr16 k.val w ++ ws)) =
      run n ((writeCalWord k w (driveRdata 0x00#8 s)).present ws) := by
  have hlo : (symCAL + BitVec.ofNat 8 (2 * k.val)).toNat = 0x88 + 2 * k.val :=
    toNat_add_ofNat (⟨2 * k.val, by omega⟩ : Fin 24) (by decide)
  have hhi : (symCAL + BitVec.ofNat 8 (2 * k.val + 1)).toNat = 0x88 + (2 * k.val + 1) :=
    toNat_add_ofNat (⟨2 * k.val + 1, by omega⟩ : Fin 24) (by decide)
  rw [asmWr16, List.cons_append, run_wrCal (n + 1) hb hv ⟨2 * k.val, by omega⟩ hlo, List.cons_append,
    run_wrCal n ?_ ?_ ⟨2 * k.val + 1, by omega⟩ hhi]
  · rfl
  · exact hb
  · exact hv

theorem half_eq_append (w : Half) : (w.extractLsb' 8 8 ++ w.extractLsb' 0 8 : BitVec (8 + 8)) = w := by
  rw [BitVec.extractLsb'_append_extractLsb'_eq_extractLsb' (by rfl)]
  exact BitVec.extractLsb'_eq_self

theorem writeCalWord_calWord_same (k : Fin 12) (w : Half) (s : State) : (writeCalWord k w s).calWord k = w := by
  simp [State.calWord, writeCalWord, half_eq_append]

theorem writeCalWord_calWord_ne {j k : Fin 12} (h : j ≠ k) (w : Half) (s : State) :
    (writeCalWord k w s).calWord j = s.calWord j := by
  have hjk : j.val ≠ k.val := Fin.val_ne_of_ne h
  simp (disch := omega) [State.calWord, writeCalWord, Vector.getElem_set_ne]

theorem maskBit_getLsbD (i : Fin 24) (m : Nat) : (maskBit i).getLsbD m = decide (m = i.val) := by
  have hi := i.isLt
  rw [Bool.eq_iff_iff]
  simp only [maskBit, BitVec.getLsbD_shiftLeft, BitVec.getLsbD_one, Bool.and_eq_true, Bool.not_eq_true',
    decide_eq_true_iff, decide_eq_false_iff_not]
  omega

theorem writeCalWord_calMask (k : Fin 12) (w : Half) (s : State) (m : Nat) :
    (writeCalWord k w s).calMask.getLsbD m = (s.calMask.getLsbD m || decide (m / 2 = k.val)) := by
  have hbits : m / 2 = k.val ↔ m = 2 * k.val ∨ m = 2 * k.val + 1 := by omega
  simp [writeCalWord, maskBit_getLsbD, hbits, Bool.or_assoc]

/-- `t` is `s` with the first `n` words of the set in the calibration bytes, and their mask bits set. -/
structure WordsLoaded (ws : Vector Half 12) (s : State) (n : Nat) (t : State) : Prop where
  frame : t = { s with calByte := t.calByte, calMask := t.calMask, rdata := t.rdata }
  mask : ∀ m < 2 * n, t.calMask.getLsbD m = true
  words : ∀ k : Fin 12, k.val < n → t.calWord k = ws[k]

namespace WordsLoaded

variable {ws : Vector Half 12} {s t : State} {n : Nat}

theorem zero : WordsLoaded ws s 0 s := ⟨rfl, by simp, by simp⟩

theorem busy (h : WordsLoaded ws s n t) : t.busy = s.busy := by rw [h.frame]; rfl

theorem calValid (h : WordsLoaded ws s n t) : t.calValid = s.calValid := by rw [h.frame]

theorem succ {k : Fin 12} (h : WordsLoaded ws s k.val t) :
    WordsLoaded ws s (k.val + 1) (writeCalWord k ws[k] (driveRdata 0x00#8 t)) where
  frame := by rw [h.frame]; rfl
  mask m hm := by
    rw [writeCalWord_calMask, driveRdata_calMask]
    by_cases hlt : m < 2 * k.val
    · simp [h.mask m hlt]
    · simp [show m / 2 = k.val by omega]
  words j hj := by
    by_cases hjk : j = k
    · rw [hjk, writeCalWord_calWord_same]
    · rw [writeCalWord_calWord_ne hjk]
      exact h.words j (by have := Fin.val_ne_of_ne hjk; omega)

theorem calMask_eq_full (h : WordsLoaded ws s 12 t) : t.calMask = fullMask := by
  refine (BitVec.eq_of_getLsbD_eq fun m hm => ?_ : t.calMask = BitVec.allOnes 24)
  rw [h.mask m hm, BitVec.getLsbD_allOnes, decide_eq_true hm]

end WordsLoaded

/-- The words of the set from word `n` on, two edges each. -/
theorem run_calWords {ws : Vector Half 12} {s : State} (hb : s.busy = false) (hv : s.calValid = false) (rest : List TW)
    (m : Nat) (l : List Half) {n : Nat} {t : State} (hl : ws.toList.drop n = l) (ht : WordsLoaded ws s n t) :
    ∃ u, WordsLoaded ws s (n + l.length) u ∧
      run (m + 2 * l.length) (t.present (asmCalWords n l ++ rest)) = run m (u.present rest) := by
  induction l generalizing n t with
  | nil => exact ⟨t, ht, rfl⟩
  | cons w l ih =>
    have hn : n < 12 := by
      by_contra hge
      simp [List.drop_eq_nil_of_le (show ws.toList.length ≤ n by simp; omega)] at hl
    rw [List.drop_eq_getElem_cons (by simpa using hn), List.cons.injEq] at hl
    obtain ⟨hw, hl⟩ := hl
    have hw : w = ws[(⟨n, hn⟩ : Fin 12)] := by simp [← hw]
    obtain ⟨u, hu, hrun⟩ := ih hl (WordsLoaded.succ (k := ⟨n, hn⟩) ht)
    refine ⟨u, by rwa [List.length_cons, Nat.add_comm l.length, ← Nat.add_assoc], ?_⟩
    rw [asmCalWords, List.append_assoc, List.length_cons, ← hrun, hw]
    exact run_wr16 (m + 2 * l.length) (ht.busy.trans hb) (ht.calValid.trans hv) ⟨n, hn⟩ _

/-- Settles O58: the twelve words are loaded one by one, and CAL_COMMIT then finds the mask full. -/
theorem calloadLoadsAndCommitsTheSet : Obligations.CalloadLoadsAndCommitsTheSet := by
  intro s ws hb hv
  obtain ⟨u, hu, hrun⟩ := run_calWords hb hv [asmCmd codeCalCommit] 1 ws.toList rfl (WordsLoaded.zero (ws := ws))
  rw [Vector.length_toList] at hu hrun
  have hmask := hu.calMask_eq_full
  refine ⟨setCalValid (driveRdata 0x00#8 u), ?_, ?_, fun k => hu.words k k.isLt⟩
  · rw [asmCalload, hrun, run_calCommit 0 (hu.busy.trans hb) (hu.calValid.trans hv) hmask]
    rfl
  · have hframe := hu.frame
    rw [hmask] at hframe
    rw [hframe]
    rfl

end Sys2Proof.Machine

/-! ## The busy check, and the writes through the window (40_host_access.md R120, R122 to R126) -/

namespace Sys2Proof.Machine

/-- R120: the rule of every write is behind the busy check. -/
theorem exec_write_busy {i : Instr} {s : State} (hi : i.isWrite = true) (hb : s.busy = true) :
    exec i s = .next (raiseError .busyReject s) := by
  cases i with
  | rd a => cases hi
  | compT | compP | compTp => simp only [exec, execCompT, execCompP, execCompTp, afterBusyCheck_busy hb]
  | nop | calCommit | calClear | clrErr | cmdRsv d =>
    simp only [exec, execNop, execCalCommit, execCalClear, execClrErr, execCmdRsv, afterBusyCheck_busy hb]
  | wrCal k d | wrRawp j d | wrRawt j d =>
    simp only [exec, execWrCal, execWrRawp, execWrRawt, afterBusyCheck_busy hb]
  | wrRo a d | wrRsv a d => simp only [exec, execWrRo, execWrRsv, afterBusyCheck_busy hb]

/-- Settles O15: a write stops at the busy check, a read has none. -/
theorem busyRefusesEveryWriteAndNoRead : Obligations.BusyRefusesEveryWriteAndNoRead :=
  ⟨fun _ _ => exec_write_busy, fun _ _ _ => rfl⟩

/-- The word an instruction encodes to decodes to it (30_encoding.md R93). -/
theorem decodeTW_eq_of_encode_eq {w : TW} {i : Instr} (hi : i.wf = true) (hw : encode i = w) : decodeTW w = i :=
  hw ▸ decodeOfEncodeIsTheInstruction i hi

/-- Settles O7: each word is the encoding of its instruction. -/
theorem wordsOfTheRulesDecode : Obligations.WordsOfTheRulesDecode := by
  unfold Obligations.WordsOfTheRulesDecode
  and_intros
  all_goals exact decodeTW_eq_of_encode_eq (by decide) (by decide)

section WindowWrites

variable {s : State}

theorem exec_wrCal_locked (hb : s.busy = false) (hv : s.calValid = true) (i : Fin 24) (d : Byte) :
    exec (.wrCal i d) s = .next (raiseError .calLocked s) := by
  rw [exec, execWrCal, afterBusyCheck_idle hb, if_pos hv, refuse]

theorem exec_wrRo_idle (hb : s.busy = false) (a d : Byte) : exec (.wrRo a d) s = .next (raiseError .badAddr s) := by
  rw [exec, execWrRo, afterBusyCheck_idle hb, refuse]

theorem exec_wrRsv_idle (hb : s.busy = false) (a d : Byte) : exec (.wrRsv a d) s = .next (raiseError .badAddr s) := by
  rw [exec, execWrRsv, afterBusyCheck_idle hb, refuse]

end WindowWrites

/-- Settles O19: the word by its address class, then the three outcomes. -/
theorem wrCalStoresTheByteAndItsMaskBit : Obligations.WrCalStoresTheByteAndItsMaskBit := by
  intro i d s
  refine ⟨?_, exec_write_busy rfl, fun hb hv => exec_wrCal_locked hb hv i d, fun hb hv => exec_wrCal_accepted hb hv i d⟩
  rw [decodeTW_write, decodeWrite_cal i (toNat_add_ofNat i (by decide))]

/-- Settles O20: the word by its address class, then the two outcomes. -/
theorem wrRawpStoresTheByteAndClearsPValid : Obligations.WrRawpStoresTheByteAndClearsPValid := by
  intro j d s
  refine ⟨?_, exec_write_busy rfl, fun hb => exec_wrRawp_accepted hb j d⟩
  rw [decodeTW_write, decodeWrite_rawp j (toNat_add_ofNat j (by decide))]

/-- Settles O21: the word by its address class, then the two outcomes. -/
theorem wrRawtStoresTheByteAndClearsBothValids : Obligations.WrRawtStoresTheByteAndClearsBothValids := by
  intro j d s
  refine ⟨?_, exec_write_busy rfl, fun hb => exec_wrRawt_accepted hb j d⟩
  rw [decodeTW_write, decodeWrite_rawt j (toNat_add_ofNat j (by decide))]

/-- Settles O22: both address classes decode to a write whose rule, busy or idle, is a refusal. -/
theorem writesToReadOnlyAndReservedAddressesAreRefused :
    Obligations.WritesToReadOnlyAndReservedAddressesAreRefused := by
  intro a d s
  simp only [decodeTW_write]
  refine ⟨decodeWrite_ro, decodeWrite_rsv, fun hb => ⟨?_, ?_⟩, fun hb => ⟨?_, ?_⟩⟩
  · exact exec_write_busy rfl hb
  · exact exec_write_busy rfl hb
  · exact exec_wrRo_idle hb a d
  · exact exec_wrRsv_idle hb a d

end Sys2Proof.Machine

/-! ## The control commands (41_control_commands.md R150 to R154) -/

namespace Sys2Proof.Machine

section ControlCommands

variable {s : State}

/-! What each command does on an idle block, one lemma per outcome. -/

theorem exec_nop_idle (hb : s.busy = false) : exec .nop s = .next s := by
  rw [exec, execNop, afterBusyCheck_idle hb]

theorem exec_calCommit_valid (hb : s.busy = false) (hv : s.calValid = true) : exec .calCommit s = .next s := by
  rw [exec, execCalCommit, afterBusyCheck_idle hb, if_pos hv]

theorem exec_calCommit_incomplete (hb : s.busy = false) (hv : s.calValid = false) (hm : s.calMask ≠ fullMask) :
    exec .calCommit s = .next (raiseError .calIncomplete s) := by
  rw [exec, execCalCommit, afterBusyCheck_idle hb, hv, if_neg Bool.false_ne_true, if_neg hm, refuse]

theorem exec_calClear_idle (hb : s.busy = false) : exec .calClear s = .next (clearCal s) := by
  rw [exec, execCalClear, afterBusyCheck_idle hb]

theorem exec_clrErr_idle (hb : s.busy = false) : exec .clrErr s = .next (clearError s) := by
  rw [exec, execClrErr, afterBusyCheck_idle hb]

theorem exec_cmdRsv_idle (hb : s.busy = false) (d : Byte) : exec (.cmdRsv d) s = .next (raiseError .badCmd s) := by
  rw [exec, execCmdRsv, afterBusyCheck_idle hb, refuse]

/-- On an idle block an edge that presents the word of NOP is the edge of an idle cycle (R150). -/
theorem step_nop_eq_step_idle {w : TW} (hw : decodeTW w = .nop) (hb : s.busy = false) (rest : List Pins) :
    step { s with inputs := Pins.ofWord w :: rest } = step { s with inputs := Pins.idle :: rest } := by
  have hexec : exec (decodeTW (Pins.ofWord w).word) { s with inputs := rest, rdata := 0x00#8 } =
      .next { s with inputs := rest, rdata := 0x00#8 } := by
    rw [ofWord_word, hw]
    exact exec_nop_idle hb
  have hnop := step_of_inputs (s := { s with inputs := Pins.ofWord w :: rest }) rfl rfl rfl hexec
  rw [sequencerPart_idle (by exact hb)] at hnop
  have hidle := (idleCycleOnlyRunsTheSequencer { s with inputs := Pins.idle :: rest } rfl rfl).1 hb
  exact hnop.trans hidle.symm

end ControlCommands

/-- Settles O23: NOP is the busy check alone, so on an idle block its edge and an idle cycle's leave the same state. -/
theorem nopDoesNothing : Obligations.NopDoesNothing := by
  intro s
  have hword : decodeTW 0x10000#17 = .nop := decodeTW_eq_of_encode_eq rfl rfl
  exact ⟨hword, exec_write_busy rfl, fun hb => ⟨exec_nop_idle hb, step_nop_eq_step_idle hword hb⟩⟩

/-- Settles O24: the busy check, then CAL_VALID, then the mask. -/
theorem calCommitNeedsTheFullMask : Obligations.CalCommitNeedsTheFullMask := fun _ =>
  ⟨decodeTW_eq_of_encode_eq rfl rfl, exec_write_busy rfl, exec_calCommit_valid, exec_calCommit_incomplete,
    exec_calCommit_accepted⟩

/-- Settles O25: past the busy check CAL_CLEAR is `clearCal`. -/
theorem calClearDropsTheSetAndKeepsTheBytes : Obligations.CalClearDropsTheSetAndKeepsTheBytes := fun _ =>
  ⟨decodeTW_eq_of_encode_eq rfl rfl, exec_write_busy rfl, exec_calClear_idle⟩

/-- Settles O26: CLR_ERR is itself behind the busy check, so while busy it is refused and clears nothing. -/
theorem clrErrClearsTheCode : Obligations.ClrErrClearsTheCode := fun _ =>
  ⟨decodeTW_eq_of_encode_eq rfl rfl, exec_write_busy rfl, exec_clrErr_idle⟩

/-- Settles O27: a reserved code decodes to CMD_RSV, whose rule, busy or idle, is a refusal. -/
theorem reservedCommandIsRefused : Obligations.ReservedCommandIsRefused := by
  intro d s
  refine ⟨fun hd => ?_, exec_write_busy rfl, fun hb => exec_cmdRsv_idle hb d⟩
  rw [decodeTW_write, decodeWrite_cmd, decodeCommand_reserved hd]

end Sys2Proof.Machine

/-! ## The control flow depends on no data (42_compensation.md R188, 70_reset_and_hazards.md R262)

A write's own rule is built of updates, refusals and tests of the control state; each of the three keeps two states in
agreement on it. -/

namespace Sys2Proof.Machine

/-- A rule that leads states with the same control state to states with the same control state. -/
def KeepsControl (body : State → Result) : Prop :=
  ∀ ⦃s s' t t' : State⦄, SameControl s s' → body s = .next t → body s' = .next t' → SameControl t t'

namespace SameControl

variable {s s' : State}

theorem busy (h : SameControl s s') : s.busy = s'.busy := by
  rw [busy_eq_decide, busy_eq_decide, h.seqOp]

theorem pins (h : SameControl s s') : s.pins = s'.pins := by
  rw [State.pins, State.pins, h.inputs]

theorem takePins (h : SameControl s s') : SameControl s.takePins s'.takePins :=
  { h with inputs := congrArg List.tail h.inputs }

theorem resetEdge (h : SameControl s s') : SameControl (resetEdge s) (resetEdge s') where
  seqOp := rfl
  seqCnt := rfl
  inputs := h.inputs
  latT := h.latT
  latP := h.latP
  calValid := rfl
  calMask := rfl
  tfValid := rfl

theorem startCommand (h : SameControl s s') (op : SeqOp) {n n' : Nat} (hn : n = n') :
    SameControl (startCommand op n s) (startCommand op n' s') :=
  { h with seqOp := rfl, seqCnt := congrArg (BitVec.ofNat 9) hn }

/-- The results of the temperature stage reach no control state (R180). -/
theorem storeT (h : SameControl s s') (tf x tf' x' : Int) : SameControl (storeT tf x s) (storeT tf' x' s') :=
  { h with tfValid := rfl }

/-- The outcome of the pressure stage reaches no control state (R182). -/
theorem storeP (h : SameControl s s') (r r' : PressOutcome) : SameControl (storeP r s) (storeP r' s') := by
  cases r <;> cases r' <;> exact { h with }

theorem commitOp (h : SameControl s s') (op : SeqOp) : SameControl (commitOp op s) (commitOp op s') := by
  cases op with
  | idle => exact h
  | opT =>
    simp only [Machine.commitOp, commitT]
    exact h.storeT _ _ _ _
  | opP =>
    simp only [Machine.commitOp, commitP]
    exact h.storeP _ _
  | opTp =>
    simp only [Machine.commitOp, commitTp]
    exact (h.storeT _ _ _ _).storeP _ _

theorem sequencerStep (h : SameControl s s') : SameControl (sequencerStep s) (sequencerStep s') := by
  rw [Machine.sequencerStep, Machine.sequencerStep, ← h.seqCnt]
  split
  · exact { h with seqOp := h.seqOp, seqCnt := rfl }
  · rw [← h.seqOp]
    exact { h.commitOp s.seqOp with seqOp := rfl, seqCnt := rfl }

theorem sequencerPart (h : SameControl s s') {u u' : State} (hu : SameControl u u') :
    SameControl (sequencerPart s u) (sequencerPart s' u') := by
  unfold Machine.sequencerPart
  rw [← h.busy]
  split
  · exact hu.sequencerStep
  · exact hu

end SameControl

namespace KeepsControl

theorem update {f : State → State} (hf : ∀ s s', SameControl s s' → SameControl (f s) (f s')) :
    KeepsControl fun s => .next (f s) := by
  intro s s' t t' h ht ht'
  cases ht
  cases ht'
  exact hf s s' h

theorem refuse (c : ErrCode) : KeepsControl (refuse c) :=
  update (f := raiseError c) fun _ _ h => { h with }

/-- A test whose answer is control state. -/
theorem ite {c : State → Prop} [DecidablePred c] {body other : State → Result}
    (hc : ∀ s s', SameControl s s' → (c s ↔ c s'))
    (hbody : KeepsControl body) (hother : KeepsControl other) :
    KeepsControl fun s => if c s then body s else other s := by
  intro s s' t t' h ht ht'
  dsimp only at ht ht'
  split at ht
  · next hcs => exact hbody h ht ((if_pos ((hc s s' h).1 hcs)).symm.trans ht')
  · next hcs => exact hother h ht ((if_neg (mt (hc s s' h).2 hcs)).symm.trans ht')

theorem afterBusyCheck {body : State → Result} (hbody : KeepsControl body) :
    KeepsControl fun s => afterBusyCheck s body :=
  ite (fun _ _ h => by rw [h.busy]) (refuse .busyReject) hbody

theorem exec (i : Instr) : KeepsControl (exec i) := by
  cases i with
  | rd a => exact update (f := fun s => driveRdata (s.rd a) s) fun _ _ h => { h with }
  | nop => exact afterBusyCheck (update fun _ _ h => h)
  | compT =>
    exact afterBusyCheck <| ite (fun _ _ h => by rw [h.calValid])
      (update fun _ _ h => h.startCommand .opT (by rw [h.latT])) (refuse .notCalibrated)
  | compP =>
    exact afterBusyCheck <| ite (fun _ _ h => by rw [h.calValid])
      (ite (fun _ _ h => by rw [h.tfValid]) (update fun _ _ h => h.startCommand .opP (by rw [h.latP]))
        (refuse .staleTfine))
      (refuse .notCalibrated)
  | compTp =>
    exact afterBusyCheck <| ite (fun _ _ h => by rw [h.calValid])
      (update fun _ _ h => h.startCommand .opTp (by rw [State.latTp, State.latTp, h.latT, h.latP]))
      (refuse .notCalibrated)
  | calCommit =>
    exact afterBusyCheck <| ite (fun _ _ h => by rw [h.calValid]) (update fun _ _ h => h)
      (ite (fun _ _ h => by rw [h.calMask]) (update (f := setCalValid) fun _ _ h => { h with calValid := rfl })
        (refuse .calIncomplete))
  | calClear =>
    exact afterBusyCheck (update fun _ _ h => { h with calValid := rfl, calMask := rfl, tfValid := rfl })
  | clrErr => exact afterBusyCheck (update fun _ _ h => { h with })
  | cmdRsv d => exact afterBusyCheck (refuse .badCmd)
  | wrRo a d | wrRsv a d => exact afterBusyCheck (refuse .badAddr)
  | wrCal k d =>
    exact afterBusyCheck <| ite (fun _ _ h => by rw [h.calValid]) (refuse .calLocked)
      (update (f := writeCal k d) fun _ _ h => { h with calMask := congrArg (· ||| maskBit k) h.calMask })
  | wrRawp j d => exact afterBusyCheck (update (f := writeRawP j d) fun _ _ h => { h with })
  | wrRawt j d => exact afterBusyCheck (update (f := writeRawT j d) fun _ _ h => { h with tfValid := rfl })

theorem hostPart (p : Pins) : KeepsControl (hostPart p) :=
  ite (fun _ _ _ => Iff.rfl) (exec (decodeTW p.word)) (update fun _ _ h => h)

theorem step : KeepsControl step := by
  intro s s' t t' h ht ht'
  rcases step_cases ht with ⟨hr, rfl⟩ | ⟨hr, u, hu, rfl⟩ <;>
    rcases step_cases ht' with ⟨hr', rfl⟩ | ⟨hr', u', hu', rfl⟩
  · exact h.takePins.resetEdge
  · simp [← h.pins, hr] at hr'
  · simp [← h.pins, hr] at hr'
  · exact h.takePins.sequencerPart (hostPart s.pins h.takePins hu (h.pins ▸ hu'))

/-- What one edge keeps in agreement, every number of edges does. -/
theorem run (n : Nat) : KeepsControl (run n) := by
  induction n with
  | zero => exact update (f := id) fun _ _ h => h
  | succ n ih =>
    intro s s' t t' h ht ht'
    obtain ⟨u, hu, hrun⟩ := run_succ_next ht
    obtain ⟨u', hu', hrun'⟩ := run_succ_next ht'
    exact ih (step h hu hu') hrun hrun'

end KeepsControl

/-- Settles O53, by induction on the number of edges: every edge keeps the two control states in agreement. -/
theorem timingIsIndependentOfTheData : Obligations.TimingIsIndependentOfTheData := by
  intro n s s' t t' h ht ht'
  have hsame := KeepsControl.run n h ht ht'
  exact ⟨hsame, hsame.busy⟩

end Sys2Proof.Machine

/-! ## A compensation command run to its end (42_compensation.md R180 to R183, R196, 30_encoding.md R101) -/

namespace Sys2Proof.Machine

theorem sequencerStep_count {s : State} (h : 1 < s.seqCnt.toNat) :
    sequencerStep s = { s with seqCnt := s.seqCnt - 1#9 } := by
  rcases sequencerStep_cases s with ⟨-, hs⟩ | ⟨hle, -⟩
  · exact hs
  · omega

theorem sequencerStep_commit {s : State} (h : s.seqCnt.toNat ≤ 1) :
    sequencerStep s = toIdle (commitOp s.seqOp s) := by
  rcases sequencerStep_cases s with ⟨hlt, -⟩ | ⟨-, hs⟩
  · omega
  · exact hs

theorem run_add {m : Nat} (n : Nat) {s u : State} (h : run m s = .next u) : run (m + n) s = run n u := by
  induction m generalizing s with
  | zero => cases h; rw [Nat.zero_add]
  | succ m ih =>
    obtain ⟨v, hv, hrun⟩ := run_succ_next h
    rw [Nat.add_right_comm, run_succ hv, ih hrun]

/-- A commit neither reads nor keeps SEQ_OP and SEQ_CNT (R196). -/
theorem toIdle_commitOp_congr (op op' : SeqOp) (n : BitVec 9) (s : State) :
    toIdle (commitOp op { s with seqOp := op', seqCnt := n }) = toIdle (commitOp op s) := by
  have hstore (r : PressOutcome) (t : State) :
      toIdle (storeP r { t with seqOp := op', seqCnt := n }) = toIdle (storeP r t) := by cases r <;> rfl
  cases op with
  | idle | opT => rfl
  | opP => exact hstore _ s
  | opTp => exact hstore _ (storeT _ _ s)

/-- An idle cycle while BUSY = 1 is the sequencer's step (R101, R196). -/
theorem step_presentIdle_busy (n : Nat) {s : State} (hb : s.busy = true) :
    step (s.presentIdle (n + 1)) = .next (sequencerStep ((driveRdata 0x00#8 s).presentIdle n)) :=
  (idleCycleOnlyRunsTheSequencer (s.presentIdle (n + 1)) rfl rfl).2 hb

/-- A command in flight with `n + 1` edges left is committed after that many idle cycles, and nothing else is done. -/
theorem run_presentIdle_commits (n : Nat) {s : State} (hb : s.busy = true) (hc : s.seqCnt.toNat = n + 1) :
    run (n + 1) (s.presentIdle (n + 1)) = .next (toIdle (commitOp s.seqOp (driveRdata 0x00#8 s))) := by
  induction n generalizing s with
  | zero =>
    have hcommit : sequencerStep ((driveRdata 0x00#8 s).presentIdle 0) =
        toIdle (commitOp s.seqOp (driveRdata 0x00#8 s)) :=
      sequencerStep_commit hc.le
    rw [run_succ (step_presentIdle_busy 0 hb), hcommit, run_zero]
  | succ n ih =>
    have hlt : 1 < s.seqCnt.toNat := by omega
    have hcount : sequencerStep ((driveRdata 0x00#8 s).presentIdle (n + 1)) =
        State.presentIdle { driveRdata 0x00#8 s with seqCnt := s.seqCnt - 1#9 } (n + 1) :=
      sequencerStep_count hlt
    have hcnt : (s.seqCnt - 1#9).toNat = n + 1 := by rw [toNat_pred_of_one_lt hlt, hc, Nat.add_sub_cancel]
    rw [run_succ (step_presentIdle_busy (n + 1) hb), hcount,
      ih (s := { driveRdata 0x00#8 s with seqCnt := s.seqCnt - 1#9 }) hb hcnt]
    exact congrArg Host.Outcome.next (toIdle_commitOp_congr s.seqOp s.seqOp _ (driveRdata 0x00#8 s))

/-- A command accepted by an idle block, with the idle cycles of its latency after it: at the end its commit is done,
and nothing else (R96, R262). -/
theorem run_command {s : State} {w : TW} {op : SeqOp} {n : Nat} (hb : s.busy = false) (hop : op ≠ .idle)
    (hpos : 0 < n) (hn : n < 512) (h : exec (decodeTW w) (driveRdata 0x00#8 (s.presentIdle n)) =
      .next (startCommand op n (driveRdata 0x00#8 (s.presentIdle n)))) :
    run (1 + n) ((s.presentIdle n).present [w]) = .next (toIdle (commitOp op (driveRdata 0x00#8 s))) := by
  obtain ⟨m, rfl⟩ := Nat.exists_eq_add_one.2 hpos
  have hissue : run (m + 1 + 1) ((s.presentIdle (m + 1)).present [w]) =
      run (m + 1) ((startCommand op (m + 1) (driveRdata 0x00#8 s)).presentIdle (m + 1)) :=
    run_present_cons (s := s.presentIdle (m + 1)) (ws := [])
      (t := (startCommand op (m + 1) (driveRdata 0x00#8 s)).presentIdle (m + 1)) (m + 1) hb h
  have hcnt : (BitVec.ofNat 9 (m + 1)).toNat = m + 1 := Nat.mod_eq_of_lt hn
  rw [Nat.add_comm 1, hissue, run_presentIdle_commits m ((busy_eq_true _).2 hop) hcnt]
  exact congrArg Host.Outcome.next (toIdle_commitOp_congr op op _ (driveRdata 0x00#8 s))

section Issue

variable {s : State}

/-! What each compensation command does on an idle block, one lemma per outcome. -/

theorem exec_compT_accepted (hb : s.busy = false) (hv : s.calValid = true) :
    exec .compT s = .next (startCommand .opT s.latT.cycles s) := by
  rw [exec, execCompT, afterBusyCheck_idle hb, if_pos hv]

theorem exec_compT_notCalibrated (hb : s.busy = false) (hv : s.calValid = false) :
    exec .compT s = .next (raiseError .notCalibrated s) := by
  rw [exec, execCompT, afterBusyCheck_idle hb, hv, if_neg Bool.false_ne_true, refuse]

theorem exec_compP_accepted (hb : s.busy = false) (hv : s.calValid = true) (hf : s.tfValid = true) :
    exec .compP s = .next (startCommand .opP s.latP.cycles s) := by
  rw [exec, execCompP, afterBusyCheck_idle hb, if_pos hv, if_pos hf]

theorem exec_compP_staleTfine (hb : s.busy = false) (hv : s.calValid = true) (hf : s.tfValid = false) :
    exec .compP s = .next (raiseError .staleTfine s) := by
  rw [exec, execCompP, afterBusyCheck_idle hb, if_pos hv, hf, if_neg Bool.false_ne_true, refuse]

theorem exec_compP_notCalibrated (hb : s.busy = false) (hv : s.calValid = false) :
    exec .compP s = .next (raiseError .notCalibrated s) := by
  rw [exec, execCompP, afterBusyCheck_idle hb, hv, if_neg Bool.false_ne_true, refuse]

theorem exec_compTp_accepted (hb : s.busy = false) (hv : s.calValid = true) :
    exec .compTp s = .next (startCommand .opTp s.latTp s) := by
  rw [exec, execCompTp, afterBusyCheck_idle hb, if_pos hv]

theorem exec_compTp_notCalibrated (hb : s.busy = false) (hv : s.calValid = false) :
    exec .compTp s = .next (raiseError .notCalibrated s) := by
  rw [exec, execCompTp, afterBusyCheck_idle hb, hv, if_neg Bool.false_ne_true, refuse]

end Issue

section WholeCommands

variable {s : State}

/-! Each command on an idle calibrated block, with the idle cycles of its latency. -/

theorem run_compT (hb : s.busy = false) (hv : s.calValid = true) :
    run (1 + s.latT.cycles) ((s.presentIdle s.latT.cycles).present [asmCmd codeCompT]) =
      .next (toIdle (commitT (driveRdata 0x00#8 s))) := by
  obtain ⟨hlo, hhi⟩ := s.latT.legal
  refine run_command hb (op := .opT) (by decide) (by omega) (by omega) ?_
  rw [asmCmd, decodeTW_write]
  exact exec_compT_accepted (s := driveRdata 0x00#8 (s.presentIdle s.latT.cycles)) hb hv

theorem run_compP (hb : s.busy = false) (hv : s.calValid = true) (hf : s.tfValid = true) :
    run (1 + s.latP.cycles) ((s.presentIdle s.latP.cycles).present [asmCmd codeCompP]) =
      .next (toIdle (commitP (driveRdata 0x00#8 s))) := by
  obtain ⟨hlo, hhi⟩ := s.latP.legal
  refine run_command hb (op := .opP) (by decide) (by omega) (by omega) ?_
  rw [asmCmd, decodeTW_write]
  exact exec_compP_accepted (s := driveRdata 0x00#8 (s.presentIdle s.latP.cycles)) hb hv hf

theorem run_compTp (hb : s.busy = false) (hv : s.calValid = true) :
    run (1 + s.latTp) ((s.presentIdle s.latTp).present [asmCmd codeCompTp]) =
      .next (toIdle (commitTp (driveRdata 0x00#8 s))) := by
  obtain ⟨hloT, hhiT⟩ := s.latT.legal
  obtain ⟨hloP, hhiP⟩ := s.latP.legal
  refine run_command hb (op := .opTp) (by decide) ?_ ?_ ?_
  · simp only [State.latTp]
    omega
  · simp only [State.latTp]
    omega
  · rw [asmCmd, decodeTW_write]
    exact exec_compTp_accepted (s := driveRdata 0x00#8 (s.presentIdle s.latTp)) hb hv

end WholeCommands

/-- COMP_T run to its end leaves the pins to come after it as they were. -/
theorem toIdle_commitT_inputs (s : State) (l : List Pins) :
    toIdle (commitT (driveRdata 0x00#8 { s with inputs := l })) =
      { toIdle (commitT (driveRdata 0x00#8 s)) with inputs := l } := rfl

/-- Settles O57: each command leaves its commit, and COMP_TP's commit is COMP_T's and then COMP_P's. -/
theorem compTpEqualsCompTThenCompP : Obligations.CompTpEqualsCompTThenCompP := by
  intro s hb hv _
  have hT : run (1 + s.latT.cycles)
      ((((s.presentIdle s.latP.cycles).present [asmCmd codeCompP]).presentIdle s.latT.cycles).present
        [asmCmd codeCompT]) =
        .next (((toIdle (commitT (driveRdata 0x00#8 s))).presentIdle s.latP.cycles).present [asmCmd codeCompP]) :=
    (run_compT (s := (s.presentIdle s.latP.cycles).present [asmCmd codeCompP]) hb hv).trans
      (congrArg Host.Outcome.next (toIdle_commitT_inputs s _))
  have hP : run (1 + s.latP.cycles)
      (((toIdle (commitT (driveRdata 0x00#8 s))).presentIdle s.latP.cycles).present [asmCmd codeCompP]) =
        .next (toIdle (commitP (toIdle (commitT (driveRdata 0x00#8 s))))) :=
    run_compP (s := toIdle (commitT (driveRdata 0x00#8 s))) rfl hv rfl
  have hcommit : toIdle (commitP (toIdle (commitT (driveRdata 0x00#8 s)))) =
      toIdle (commitTp (driveRdata 0x00#8 s)) := by
    rw [commitTp_eq]
    exact toIdle_commitOp_congr .opP .idle 0#9 (commitT (driveRdata 0x00#8 s))
  refine ⟨_, run_compTp hb hv, ?_⟩
  rw [run_add _ hT, hP, hcommit]

/-- At SEQ_CNT = 1 the sequencer commits the command in flight (R196). -/
theorem sequencerStep_last {s : State} {op : SeqOp} (hop : s.seqOp = op) (hc : s.seqCnt = 1#9) :
    sequencerStep s = toIdle (commitOp op s) := by
  rw [sequencerStep_commit (by rw [hc]; decide), hop]

/-- Settles O28: the three outcomes at issue, and the commit. -/
theorem compTComputesTheTemperature : Obligations.CompTComputesTheTemperature := fun _ =>
  ⟨decodeTW_eq_of_encode_eq rfl rfl, exec_write_busy rfl, exec_compT_notCalibrated, exec_compT_accepted,
    sequencerStep_last⟩

/-- Settles O29: the four outcomes at issue in the order of R224, and the commit. -/
theorem compPComputesThePressureFromTheHeldTFine : Obligations.CompPComputesThePressureFromTheHeldTFine := fun _ =>
  ⟨decodeTW_eq_of_encode_eq rfl rfl, exec_write_busy rfl, exec_compP_notCalibrated, exec_compP_staleTfine,
    exec_compP_accepted, sequencerStep_last⟩

/-- Settles O30: the three outcomes at issue, and the commit. -/
theorem compTpComputesBothFromTheFreshTFine : Obligations.CompTpComputesBothFromTheFreshTFine := fun _ =>
  ⟨decodeTW_eq_of_encode_eq rfl rfl, exec_write_busy rfl, exec_compTp_notCalibrated, exec_compTp_accepted,
    sequencerStep_last⟩

end Sys2Proof.Machine

/-! ## The two stages as formulas, their division and its guard (42_compensation.md R171 to R177) -/

namespace Sys2Proof.Machine

theorem asr_eq_fdiv (a : Int) (n : Nat) : asr a n = a.fdiv (2 ^ n) := by
  rw [asr_eq, Int.fdiv_eq_ediv_of_nonneg a (by positivity)]

/-- Settles O32: each shift of the stage is a floor division by a power of two. -/
theorem temperatureStageFormula : Obligations.TemperatureStageFormula := by
  intro adcT c
  simp [tstage, tempSteps, asr_eq_fdiv, shl_eq]

section PressureSteps

variable {adcP tFine : Int} {c : Cal}

/-! The equation of each step of R172, in the steps before it. -/

theorem pressSteps_x : (pressSteps adcP tFine c).x = tFine - 128000 := rfl
theorem pressSteps_xx : (pressSteps adcP tFine c).xx = (pressSteps adcP tFine c).x * (pressSteps adcP tFine c).x := rfl
theorem pressSteps_xxP6 : (pressSteps adcP tFine c).xxP6 = (pressSteps adcP tFine c).xx * c.p6 := rfl
theorem pressSteps_var2 : (pressSteps adcP tFine c).var2 =
    (pressSteps adcP tFine c).xxP6 + shl ((pressSteps adcP tFine c).x * c.p5) 17 + shl c.p4 35 := rfl
theorem pressSteps_y : (pressSteps adcP tFine c).y =
    asr ((pressSteps adcP tFine c).xx * c.p3) 8 + shl ((pressSteps adcP tFine c).x * c.p2) 12 := rfl
theorem pressSteps_yP1 : (pressSteps adcP tFine c).yP1 = (shl 1 47 + (pressSteps adcP tFine c).y) * c.p1 := rfl
theorem pressSteps_dv : (pressSteps adcP tFine c).dv = asr (pressSteps adcP tFine c).yP1 33 := rfl
theorem pressSteps_n : (pressSteps adcP tFine c).n =
    (shl (1048576 - adcP) 31 - (pressSteps adcP tFine c).var2) * 3125 := rfl
theorem pressSteps_q : (pressSteps adcP tFine c).q =
    tdiv (pressSteps adcP tFine c).n (pressSteps adcP tFine c).dv := rfl
theorem pressSteps_qqP9 : (pressSteps adcP tFine c).qqP9 =
    c.p9 * asr (pressSteps adcP tFine c).q 13 * asr (pressSteps adcP tFine c).q 13 := rfl
theorem pressSteps_e : (pressSteps adcP tFine c).e = asr (pressSteps adcP tFine c).qqP9 25 := rfl
theorem pressSteps_qP8 : (pressSteps adcP tFine c).qP8 = c.p8 * (pressSteps adcP tFine c).q := rfl
theorem pressSteps_f : (pressSteps adcP tFine c).f = asr (pressSteps adcP tFine c).qP8 19 := rfl
theorem pressSteps_sum : (pressSteps adcP tFine c).sum =
    (pressSteps adcP tFine c).q + (pressSteps adcP tFine c).e + (pressSteps adcP tFine c).f := rfl
theorem pressSteps_p : (pressSteps adcP tFine c).p = asr (pressSteps adcP tFine c).sum 8 + shl c.p7 4 := rfl

end PressureSteps

/-- The DivideGuard is the zero divisor (R174). -/
theorem pstage_eq_guard_iff {adcP tFine : Int} {c : Cal} :
    pstage adcP tFine c = .guard ↔ (pressSteps adcP tFine c).dv = 0 := by
  rw [pstage]
  split
  · next h => exact iff_of_true rfl h
  · next h => exact iff_of_false nofun h

/-- With a divisor the outcome is the last step's value, with the flag of R176. -/
theorem pstage_eq_value {adcP tFine : Int} {c : Cal} (h : (pressSteps adcP tFine c).dv ≠ 0) :
    pstage adcP tFine c = .value (pressSteps adcP tFine c).p
      (decide ((pressSteps adcP tFine c).n < 0 ∨ (pressSteps adcP tFine c).dv < 0)) := by
  rw [pstage, Bool.decide_or]
  exact if_neg h

/-- Settles O33, by the equations of the steps. -/
theorem pressureStageFormula : Obligations.PressureStageFormula := by
  intro adcP tFine c x var2 y dv n q e f
  have hdv : (pressSteps adcP tFine c).dv = dv := by
    simp [pressSteps_dv, pressSteps_yP1, pressSteps_y, pressSteps_xx, pressSteps_x, asr_eq_fdiv, shl_eq, dv, y, x]
  have hn : (pressSteps adcP tFine c).n = n := by
    simp [pressSteps_n, pressSteps_var2, pressSteps_xxP6, pressSteps_xx, pressSteps_x, shl_eq, n, var2, x]
  have hq : (pressSteps adcP tFine c).q = q := by rw [pressSteps_q, hn, hdv, tdiv_eq]
  have hp : (pressSteps adcP tFine c).p = (q + e + f).fdiv 256 + c.p7 * 16 := by
    simp [pressSteps_p, pressSteps_sum, pressSteps_e, pressSteps_qqP9, pressSteps_f, pressSteps_qP8, hq, asr_eq_fdiv,
      shl_eq, e, f]
  refine ⟨fun h => pstage_eq_guard_iff.2 (hdv.trans h), fun h => ?_⟩
  rw [pstage_eq_value (hdv.trans_ne h), hp, hn, hdv]

/-- The quotient of the magnitudes with the sign of the operands (R173). -/
theorem tdiv_eq_sign_mul (n d : Int) : tdiv n d = n.sign * d.sign * (n.natAbs / d.natAbs : Nat) := by
  have hparts : tdiv n d = (n.tdiv d).sign * (n.natAbs / d.natAbs : Nat) := by
    rw [tdiv_eq, show n.natAbs / d.natAbs = (n.tdiv d).natAbs from (Int.natAbs_tdiv n d).symm, Int.sign_mul_natAbs]
  rw [hparts, Int.sign_tdiv]
  split
  · next h => simp [Nat.div_eq_of_lt h]
  · rfl

/-- Settles O34, by the library's comparison of truncation and floor. -/
theorem divisionRoundsTowardZero : Obligations.DivisionRoundsTowardZero := by
  intro n d hd
  refine ⟨tdiv_eq_sign_mul n d, fun hn hd => ?_, fun hopp hdvd => ?_⟩
  · rw [tdiv_eq, Int.tdiv_eq_ediv_of_nonneg hn, Int.fdiv_eq_ediv_of_nonneg n hd.le]
  · rw [tdiv_eq, Int.tdiv_eq_fdiv, if_neg hdvd]
    rcases hopp with ⟨hn, hd⟩ | ⟨hn, hd⟩
    · rw [if_neg (by omega), if_pos hd.le, Int.sign_eq_one_of_pos hd]
    · rw [if_pos hn.le, if_neg (by omega)]

/-- The divisor is 0 exactly on the products that the shift by 33 sends to 0 (R174). -/
theorem pstage_eq_guard_iff_product {adcP tFine : Int} {c : Cal} :
    pstage adcP tFine c = .guard ↔
      0 ≤ (2 ^ 47 + (pressSteps adcP tFine c).y) * c.p1 ∧
        (2 ^ 47 + (pressSteps adcP tFine c).y) * c.p1 < 2 ^ 33 := by
  have hdv : (pressSteps adcP tFine c).dv = (2 ^ 47 + (pressSteps adcP tFine c).y) * c.p1 / 2 ^ 33 := by
    simp [pressSteps_dv, pressSteps_yP1, asr_eq, shl_eq]
  rw [pstage_eq_guard_iff, hdv]
  omega

/-- The store of a guarded stage: PRESS 0, DIVGUARD, and ERR as it was (R174, R182). -/
theorem storeP_guard (s : State) :
    (storeP .guard s).press = 0#32 ∧ (storeP .guard s).divGuard = true ∧ (storeP .guard s).err = s.err :=
  ⟨rfl, rfl, rfl⟩

/-- Settles O35: the commit of OP_P or OP_TP is a guarded store. -/
theorem divideGuardExactlyOnAZeroDivisor : Obligations.DivideGuardExactlyOnAZeroDivisor := by
  refine ⟨fun adcP tFine c => ⟨pstage_eq_guard_iff_product, fun h => ?_⟩, fun s hop hc h => ?_,
    fun s hop hc h => ?_⟩
  · exact pstage_eq_guard_iff_product.2 (by simp [h])
  · rw [sequencerStep_last hop hc, commitOp, commitP, h]
    exact storeP_guard s
  · rw [sequencerStep_last hop hc, commitOp, commitTp, h]
    exact storeP_guard (storeT (tstage s.adcT s.cal).1 (tstage s.adcT s.cal).2 s)

end Sys2Proof.Machine

/-! ## The pressure store (42_compensation.md R182) -/

namespace Sys2Proof.Machine

theorem storeP_value (p : Int) (nd : Bool) (s : State) :
    storeP (.value p nd) s =
      { s with press := satPress p, divGuard := false, pSat := pressSaturates p, negDiv := nd, pValid := true } := rfl

theorem pressSaturates_iff (p : Int) : pressSaturates p = true ↔ p < 0 ∨ pressMax < p := by
  simp [pressSaturates]

theorem satPress_of_neg {p : Int} (h : p < 0) : satPress p = 0#32 := if_pos h

theorem satPress_of_gt {p : Int} (h : pressMax < p) : satPress p = 0xFFFFFFFF#32 := by
  rw [satPress, if_neg (by unfold pressMax at h; omega), if_pos h]

theorem satPress_of_range {p : Int} (h0 : 0 ≤ p) (h : p ≤ pressMax) : ((satPress p).toNat : Int) = p := by
  rw [satPress, if_neg (by omega), if_neg (by omega), BitVec.toNat_ofInt]
  unfold pressMax at h
  omega

/-- PRESS holds the nearest value it can to an exact pressure (R182, R185). -/
theorem satPress_toNat (p : Int) : ((satPress p).toNat : Int) = max 0 (min p (2 ^ 32 - 1)) := by
  rcases lt_or_ge p 0 with h0 | h0
  · rw [satPress_of_neg h0]
    simp; omega
  · rcases lt_or_ge pressMax p with h | h
    · rw [satPress_of_gt h]
      unfold pressMax at h
      simp; omega
    · rw [satPress_of_range h0 h]
      unfold pressMax at h
      omega

/-- Settles O31, by the ranges of the saturated value and of P_SAT. -/
theorem pressureStoreSaturates : Obligations.PressureStoreSaturates := by
  intro s
  refine ⟨rfl, fun p nd => ⟨fun h => ?_, fun h => ?_, fun h0 h => ⟨satPress p, satPress_of_range h0 h, ?_⟩⟩⟩
  · rw [storeP_value, satPress_of_neg h, (pressSaturates_iff p).2 (.inl h)]
  · rw [storeP_value, satPress_of_gt h, (pressSaturates_iff p).2 (.inr h)]
  · have hin : pressSaturates p = false := by
      rw [← Bool.not_eq_true, pressSaturates_iff]
      unfold pressMax
      omega
    rw [storeP_value, hin]

end Sys2Proof.Machine

/-! ## The widths of the intermediates (42_compensation.md R185, R186)

Each step of R172 is bounded in magnitude by the steps before it. -/

namespace Sys2Proof.Machine

/-- Settles O38, from the ranges of the temperature stage and the saturated store. -/
theorem temperatureResultsFitTheirRegisters : Obligations.TemperatureResultsFitTheirRegisters := by
  refine ⟨fun adcT c ha hc => ?_, fun p => ⟨satPress_toNat p, pressSaturates_iff p⟩⟩
  obtain ⟨hf, hf'⟩ := tstage_fst_inRange ha hc
  obtain ⟨ht, ht'⟩ := tstage_snd_bounds ha hc
  exact ⟨hf, hf', ht, ht', sext_enc32 (by omega) (by omega), sext_enc32 (by omega) (by omega)⟩

theorem FitsSigned.of_bounds {w : Nat} {v lo hi : Int} (h : lo ≤ v ∧ v ≤ hi) (hlo : -(2 ^ (w - 1)) ≤ lo)
    (hhi : hi < 2 ^ (w - 1)) : FitsSigned w v :=
  ⟨hlo.trans h.1, h.2.trans_lt hhi⟩

theorem FitsSigned.of_abs_le {w : Nat} {v B : Int} (h : |v| ≤ B) (hB : B < 2 ^ (w - 1)) : FitsSigned w v :=
  .of_bounds (abs_le.1 h) (neg_le_neg hB.le) hB

theorem abs_asr_le {a B : Int} (n : Nat) (h : |a| ≤ B * 2 ^ n) : |asr a n| ≤ B := by
  obtain ⟨hlo, hhi⟩ := abs_le.1 h
  have hpos : (0 : Int) < 2 ^ n := by positivity
  exact abs_le.2 (asr_bounds n (by linarith) (by linarith))

theorem abs_shl_le {a A : Int} (n : Nat) (h : |a| ≤ A) : |shl a n| ≤ A * 2 ^ n := by
  rw [shl_eq]
  exact abs_mul_bound h (abs_of_pos (by positivity)).le

theorem abs_tdiv_le {a A : Int} (d : Int) (h : |a| ≤ A) : |tdiv a d| ≤ A := by
  rw [tdiv_eq, Int.abs_eq_natAbs]
  rw [Int.abs_eq_natAbs] at h
  exact (Int.ofNat_le.2 (Int.natAbs_tdiv_le_natAbs a d)).trans h

theorem abs_add_le_add {a b A B : Int} (ha : |a| ≤ A) (hb : |b| ≤ B) : |a + b| ≤ A + B :=
  (abs_add_le a b).trans (add_le_add ha hb)

/-- A 16-bit signed constant (10_state.md R35). -/
theorem abs_le_of_half {v : Int} (h : -32768 ≤ v ∧ v ≤ 32767) : |v| ≤ 32768 :=
  abs_le.2 ⟨h.1, by omega⟩

section PressureBounds

variable {adcP tf : Int} {c : Cal}

theorem abs_pressSteps_x_le (ht : TFineInRange tf) : |(pressSteps adcP tf c).x| ≤ 4322224 := by
  obtain ⟨hlo, hhi⟩ := ht
  rw [pressSteps_x]
  exact abs_le.2 ⟨by omega, by omega⟩

theorem abs_pressSteps_xx_le (ht : TFineInRange tf) : |(pressSteps adcP tf c).xx| ≤ 4322224 ^ 2 := by
  rw [pressSteps_xx, sq]
  exact abs_mul_bound (abs_pressSteps_x_le ht) (abs_pressSteps_x_le ht)

/-- The square of `x` times a 16-bit constant: the two products of R172 that start with it. -/
theorem abs_pressSteps_xx_mul_le (ht : TFineInRange tf) {k : Int} (hk : -32768 ≤ k ∧ k ≤ 32767) :
    |(pressSteps adcP tf c).xx * k| ≤ 4322224 ^ 2 * 2 ^ 15 :=
  abs_mul_bound (abs_pressSteps_xx_le ht) (abs_le_of_half hk)

/-- `x` times a 16-bit constant, shifted left. -/
theorem abs_shl_pressSteps_x_mul_le (ht : TFineInRange tf) {k : Int} (hk : -32768 ≤ k ∧ k ≤ 32767) (n : Nat) :
    |shl ((pressSteps adcP tf c).x * k) n| ≤ 4322224 * 2 ^ 15 * 2 ^ n :=
  abs_shl_le n (abs_mul_bound (abs_pressSteps_x_le ht) (abs_le_of_half hk))

theorem abs_pressSteps_xxP6_le (ht : TFineInRange tf) (hc : c.InRange) :
    |(pressSteps adcP tf c).xxP6| ≤ 4322224 ^ 2 * 2 ^ 15 := by
  rw [pressSteps_xxP6]
  exact abs_pressSteps_xx_mul_le ht hc.p6

theorem abs_pressSteps_var2_le (ht : TFineInRange tf) (hc : c.InRange) :
    |(pressSteps adcP tf c).var2| ≤ 632 * 10 ^ 15 := by
  rw [pressSteps_var2]
  have hP4 := abs_shl_le 35 (abs_le_of_half hc.p4)
  exact (abs_add_le_add (abs_add_le_add (abs_pressSteps_xxP6_le ht hc) (abs_shl_pressSteps_x_mul_le ht hc.p5 17))
    hP4).trans (by norm_num)

theorem abs_pressSteps_y_le (ht : TFineInRange tf) (hc : c.InRange) :
    |(pressSteps adcP tf c).y| ≤ 2972 * 10 ^ 12 := by
  rw [pressSteps_y]
  have hxxP3 : |asr ((pressSteps adcP tf c).xx * c.p3) 8| ≤ 4322224 ^ 2 * 2 ^ 7 :=
    abs_asr_le 8 (abs_pressSteps_xx_mul_le ht hc.p3)
  exact (abs_add_le_add hxxP3 (abs_shl_pressSteps_x_mul_le ht hc.p2 12)).trans (by norm_num)

theorem abs_pressSteps_yP1_le (ht : TFineInRange tf) (hc : c.InRange) :
    |(pressSteps adcP tf c).yP1| ≤ 2040 * 10 ^ 17 := by
  obtain ⟨h0, h1⟩ := hc.p1
  have hshl : |shl 1 47| ≤ 2 ^ 47 := by decide
  rw [pressSteps_yP1]
  have hP1 : |c.p1| ≤ 65535 := abs_le.2 ⟨by omega, h1⟩
  exact (abs_mul_bound (abs_add_le_add hshl (abs_pressSteps_y_le ht hc)) hP1).trans (by norm_num)

theorem abs_pressSteps_dv_le (ht : TFineInRange tf) (hc : c.InRange) :
    |(pressSteps adcP tf c).dv| ≤ 24 * 10 ^ 9 := by
  rw [pressSteps_dv]
  exact abs_asr_le 33 ((abs_pressSteps_yP1_le ht hc).trans (by norm_num))

theorem abs_pressSteps_n_le (ha : AdcInRange adcP) (ht : TFineInRange tf) (hc : c.InRange) :
    |(pressSteps adcP tf c).n| ≤ 2 * 10 ^ 21 := by
  obtain ⟨hlo, hhi⟩ := ha
  rw [pressSteps_n]
  have hp0 : |1048576 - adcP| ≤ 1048576 := abs_le.2 ⟨by omega, by omega⟩
  have hdiff := (abs_sub _ _).trans (add_le_add (abs_shl_le 31 hp0) (abs_pressSteps_var2_le (adcP := adcP) ht hc))
  have h3125 : |(3125 : Int)| ≤ 3125 := by decide
  exact (abs_mul_bound hdiff h3125).trans (by norm_num)

theorem abs_pressSteps_q_le (ha : AdcInRange adcP) (ht : TFineInRange tf) (hc : c.InRange) :
    |(pressSteps adcP tf c).q| ≤ 2 * 10 ^ 21 := by
  rw [pressSteps_q]
  exact abs_tdiv_le _ (abs_pressSteps_n_le ha ht hc)

theorem abs_pressSteps_qqP9_le (ha : AdcInRange adcP) (ht : TFineInRange tf) (hc : c.InRange) :
    |(pressSteps adcP tf c).qqP9| ≤ 2 * 10 ^ 39 := by
  rw [pressSteps_qqP9]
  have hq : |asr (pressSteps adcP tf c).q 13| ≤ 245 * 10 ^ 15 :=
    abs_asr_le 13 ((abs_pressSteps_q_le ha ht hc).trans (by norm_num))
  exact (abs_mul_bound (abs_mul_bound (abs_le_of_half hc.p9) hq) hq).trans (by norm_num)

theorem abs_pressSteps_e_le (ha : AdcInRange adcP) (ht : TFineInRange tf) (hc : c.InRange) :
    |(pressSteps adcP tf c).e| ≤ 6 * 10 ^ 31 := by
  rw [pressSteps_e]
  exact abs_asr_le 25 ((abs_pressSteps_qqP9_le ha ht hc).trans (by norm_num))

theorem abs_pressSteps_qP8_le (ha : AdcInRange adcP) (ht : TFineInRange tf) (hc : c.InRange) :
    |(pressSteps adcP tf c).qP8| ≤ 7 * 10 ^ 25 := by
  rw [pressSteps_qP8]
  exact (abs_mul_bound (abs_le_of_half hc.p8) (abs_pressSteps_q_le ha ht hc)).trans (by norm_num)

theorem abs_pressSteps_p_le (ha : AdcInRange adcP) (ht : TFineInRange tf) (hc : c.InRange) :
    |(pressSteps adcP tf c).p| ≤ 3 * 10 ^ 29 := by
  have hf : |(pressSteps adcP tf c).f| ≤ 2 * 10 ^ 20 := by
    rw [pressSteps_f]
    exact abs_asr_le 19 ((abs_pressSteps_qP8_le ha ht hc).trans (by norm_num))
  have hsum : |(pressSteps adcP tf c).sum| ≤ 2 * 10 ^ 21 + 6 * 10 ^ 31 + 2 * 10 ^ 20 :=
    abs_add_le_add (abs_add_le_add (abs_pressSteps_q_le ha ht hc) (abs_pressSteps_e_le ha ht hc)) hf
  have hshift : |asr (pressSteps adcP tf c).sum 8| ≤ 25 * 10 ^ 28 := abs_asr_le 8 (hsum.trans (by norm_num))
  rw [pressSteps_p]
  exact (abs_add_le_add hshift (abs_shl_le 4 (abs_le_of_half hc.p7))).trans (by norm_num)

end PressureBounds

theorem tempSteps_scaled_bounds {adcT : Int} {c : Cal} (ha : AdcInRange adcT) (hc : c.InRange) :
    -20970992 ≤ (tempSteps adcT c).scaled ∧ (tempSteps adcT c).scaled ≤ 20970848 := by
  obtain ⟨hlo, hhi⟩ := tstage_fst_inRange ha hc
  change _ ≤ (tstage adcT c).1 * 5 + 128 ∧ (tstage adcT c).1 * 5 + 128 ≤ _
  omega

/-- Settles O39, from the bounds of the steps. -/
theorem intermediatesFitTheirWidths : Obligations.IntermediatesFitTheirWidths := by
  intro adcT adcP tf c haT haP ht hc
  constructor
  · refine ⟨.of_bounds (tempSteps_a_bounds haT hc) ?_ ?_, .of_bounds (tempSteps_aT2_bounds haT hc) ?_ ?_,
      .of_bounds (tempSteps_var1_bounds haT hc) ?_ ?_, .of_bounds (tempSteps_b_bounds haT hc) ?_ ?_,
      .of_bounds (tempSteps_square_bounds haT hc) ?_ ?_, .of_bounds (tempSteps_squareT3_bounds haT hc) ?_ ?_,
      .of_bounds (tempSteps_var2_bounds haT hc) ?_ ?_, .of_bounds (tstage_fst_inRange haT hc) ?_ ?_,
      .of_bounds (tempSteps_scaled_bounds haT hc) ?_ ?_, .of_bounds (tstage_snd_bounds haT hc) ?_ ?_⟩
    all_goals decide
  · refine ⟨.of_abs_le (abs_pressSteps_x_le ht) ?_, .of_abs_le (abs_pressSteps_xx_le ht) ?_,
      .of_abs_le (abs_pressSteps_xxP6_le ht hc) ?_, .of_abs_le (abs_pressSteps_var2_le ht hc) ?_,
      .of_abs_le (abs_pressSteps_y_le ht hc) ?_, .of_abs_le (abs_pressSteps_yP1_le ht hc) ?_,
      .of_abs_le (abs_pressSteps_dv_le ht hc) ?_, .of_abs_le (abs_pressSteps_n_le haP ht hc) ?_,
      .of_abs_le (abs_pressSteps_q_le haP ht hc) ?_, .of_abs_le (abs_pressSteps_qqP9_le haP ht hc) ?_,
      .of_abs_le (abs_pressSteps_e_le haP ht hc) ?_, .of_abs_le (abs_pressSteps_qP8_le haP ht hc) ?_,
      .of_abs_le (abs_pressSteps_p_le haP ht hc) ?_⟩
    all_goals decide

end Sys2Proof.Machine

/-! ## The 64-bit datapath (42_compensation.md R187)

`in64` carries sums, products and left shifts over exactly; a right shift, a division and a result read back need an
operand that fits 64 bits. -/

namespace Sys2Proof.Machine

section In64

variable {a b : Int}

theorem in64_toInt (h : FitsSigned 64 a) : (in64 a).toInt = a :=
  BitVec.toInt_ofInt_eq_self (by decide) h.1 h.2

theorem in64_add (a b : Int) : in64 a + in64 b = in64 (a + b) := (BitVec.ofInt_add a b).symm

theorem in64_mul (a b : Int) : in64 a * in64 b = in64 (a * b) := (BitVec.ofInt_mul a b).symm

theorem in64_sub (a b : Int) : in64 a - in64 b = in64 (a - b) := by
  rw [sub_eq_iff_eq_add, in64_add, sub_add_cancel]

theorem in64_shiftLeft (a : Int) (n : Nat) : in64 a <<< n = in64 (shl a n) := by
  have hpow : BitVec.twoPow 64 n = in64 (2 ^ n) := by
    rw [in64, ← Nat.cast_ofNat (n := 2), ← Nat.cast_pow, BitVec.ofInt_natCast]
    exact BitVec.eq_of_toNat_eq (by simp)
  rw [BitVec.shiftLeft_eq_mul_twoPow, hpow, in64_mul, shl_eq]

theorem in64_sshiftRight (h : FitsSigned 64 a) (n : Nat) : (in64 a).sshiftRight n = in64 (asr a n) := by
  rw [BitVec.sshiftRight_eq, in64_toInt h, Int.shiftRight_eq_div_pow]
  rfl

theorem in64_sdiv (ha : FitsSigned 64 a) (hb : FitsSigned 64 b) : (in64 a).sdiv (in64 b) = in64 (tdiv a b) := by
  rw [← BitVec.toInt_inj, BitVec.toInt_sdiv, in64_toInt ha, in64_toInt hb]
  exact (BitVec.toInt_ofInt _).symm

theorem in64_eq_zero_iff (h : FitsSigned 64 a) : in64 a = 0#64 ↔ a = 0 := by
  rw [← BitVec.toInt_inj, in64_toInt h, BitVec.toInt_zero]

theorem in64_slt_zero (h : FitsSigned 64 a) : (in64 a).slt 0#64 = decide (a < 0) := by
  rw [BitVec.slt_eq_decide, in64_toInt h, BitVec.toInt_zero]

end In64

theorem tstage64_eq {adcT : Int} {c : Cal} (ha : AdcInRange adcT) (hc : c.InRange) :
    tstage64 adcT c = tstage adcT c := by
  have hadc : FitsSigned 64 adcT := .of_bounds ha (by decide) (by decide)
  have haT2 : FitsSigned 64 (tempSteps adcT c).aT2 := .of_bounds (tempSteps_aT2_bounds ha hc) (by decide) (by decide)
  have hsquare : FitsSigned 64 (tempSteps adcT c).square :=
    .of_bounds (tempSteps_square_bounds ha hc) (by decide) (by decide)
  have hsquareT3 : FitsSigned 64 (tempSteps adcT c).squareT3 :=
    .of_bounds (tempSteps_squareT3_bounds ha hc) (by decide) (by decide)
  have htFine : FitsSigned 64 (tempSteps adcT c).tFine := .of_bounds (tstage_fst_inRange ha hc) (by decide) (by decide)
  have hscaled : FitsSigned 64 (tempSteps adcT c).scaled :=
    .of_bounds (tempSteps_scaled_bounds ha hc) (by decide) (by decide)
  have htemp : FitsSigned 64 (tempSteps adcT c).temp := .of_bounds (tstage_snd_bounds ha hc) (by decide) (by decide)
  unfold tstage64
  extract_lets a var1 b var2 tFine
  have ha : a = in64 (tempSteps adcT c).a := by
    simp only [a, in64_sshiftRight hadc, in64_shiftLeft, in64_sub]
    rfl
  have hvar1 : var1 = in64 (tempSteps adcT c).var1 := by
    simp only [var1, ha, in64_mul]
    exact in64_sshiftRight haT2 11
  have hb : b = in64 (tempSteps adcT c).b := by
    simp only [b, in64_sshiftRight hadc, in64_sub]
    rfl
  have hvar2 : var2 = in64 (tempSteps adcT c).var2 := by
    simp only [var2, hb, in64_mul, ← tempSteps_square, in64_sshiftRight hsquare]
    exact in64_sshiftRight hsquareT3 14
  have htf : tFine = in64 (tempSteps adcT c).tFine := by
    simp only [tFine, hvar1, hvar2, in64_add]
    rfl
  have hs : tFine * 5#64 + 128#64 = in64 (tempSteps adcT c).scaled := by
    rw [htf]
    change in64 _ * in64 5 + in64 128 = _
    rw [in64_mul, in64_add]
    rfl
  rw [hs, in64_sshiftRight hscaled, htf, in64_toInt htFine]
  exact congrArg (Prod.mk _) (in64_toInt htemp)

/-- Where every operand of a shift or of the division and the result fit, the 64-bit pressure stage is the exact one. -/
theorem pstage64_eq {adcP tf : Int} {c : Cal} (ht : TFineInRange tf) (hc : c.InRange)
    (hyP1 : FitsSigned 64 (pressSteps adcP tf c).yP1) (hn : FitsSigned 64 (pressSteps adcP tf c).n)
    (hq : FitsSigned 64 (pressSteps adcP tf c).q) (hqqP9 : FitsSigned 64 (pressSteps adcP tf c).qqP9)
    (hqP8 : FitsSigned 64 (pressSteps adcP tf c).qP8) (hsum : FitsSigned 64 (pressSteps adcP tf c).sum)
    (hp : FitsSigned 64 (pressSteps adcP tf c).p) : pstage64 adcP tf c = pstage adcP tf c := by
  have hxxP3 : FitsSigned 64 ((pressSteps adcP tf c).xx * c.p3) :=
    .of_abs_le (abs_pressSteps_xx_mul_le ht hc.p3) (by decide)
  have hdv : FitsSigned 64 (pressSteps adcP tf c).dv := .of_abs_le (abs_pressSteps_dv_le ht hc) (by decide)
  unfold pstage64
  extract_lets x var2 y dv n q q13 e f p
  have hx64 : x = in64 (pressSteps adcP tf c).x := in64_sub tf 128000
  have hvar2 : var2 = in64 (pressSteps adcP tf c).var2 := by
    simp only [var2, hx64, in64_mul, in64_shiftLeft, in64_add]
    rfl
  have hy : y = in64 (pressSteps adcP tf c).y := by
    simp only [y, hx64, in64_mul, ← pressSteps_xx, in64_sshiftRight hxxP3, in64_shiftLeft, in64_add]
    rfl
  have hdv64 : dv = in64 (pressSteps adcP tf c).dv := by
    change ((in64 1 <<< 47 + y) * in64 c.p1).sshiftRight 33 = _
    rw [hy, in64_shiftLeft, in64_add, in64_mul]
    exact in64_sshiftRight hyP1 33
  have hn64 : n = in64 (pressSteps adcP tf c).n := by
    change ((in64 1048576 - in64 adcP) <<< 31 - var2) * in64 3125 = _
    rw [hvar2, in64_sub, in64_shiftLeft, in64_sub, in64_mul]
    rfl
  have hq64 : q = in64 (pressSteps adcP tf c).q := by
    simp only [q, hn64, hdv64]
    exact in64_sdiv hn hdv
  have he : e = in64 (pressSteps adcP tf c).e := by
    simp only [e, q13, hq64, in64_sshiftRight hq, in64_mul]
    exact in64_sshiftRight hqqP9 25
  have hf : f = in64 (pressSteps adcP tf c).f := by
    simp only [f, hq64, in64_mul]
    exact in64_sshiftRight hqP8 19
  have hp64 : p = in64 (pressSteps adcP tf c).p := by
    simp only [p, hq64, he, hf, in64_add, ← pressSteps_sum, in64_sshiftRight hsum, in64_shiftLeft]
    rfl
  rw [hdv64, hn64, hp64, in64_toInt hp, in64_slt_zero hn, in64_slt_zero hdv]
  exact if_congr (in64_eq_zero_iff hdv) rfl rfl

/-- Settles O40: the temperature stage always fits, the pressure stage where its wide intermediates do. -/
theorem sixtyFourBitsAgreeWhereIntermediatesFit : Obligations.SixtyFourBitsAgreeWhereIntermediatesFit := by
  intro adcT adcP tf c haT _ ht hc
  refine ⟨tstage64_eq haT hc, ?_⟩
  intro r hyP1 hn hq hqqP9 _ hqP8 hsum hp
  exact pstage64_eq ht hc hyP1 hn hq hqqP9 hqP8 hsum hp

end Sys2Proof.Machine

/-! ## Errors (60_exceptions.md R222 to R224) -/

namespace Sys2Proof.Machine

section ErrorChecks

variable {s : State}

/-! What R224's checks answer: the busy check alone, and past it one lemma per transaction whose refusal depends on
the state. -/

theorem errorOf_busy {i : Instr} (hi : i.isWrite = true) (hb : s.busy = true) : errorOf i s = some .busyReject := by
  simp [errorOf, errorChecks, firstError, hi, hb]

/-- On an idle block the busy check does not apply. -/
theorem errorOf_idle (hb : s.busy = false) (i : Instr) : errorOf i s = firstError (errorChecks i s).tail := by
  simp [errorOf, errorChecks, firstError, hb]

theorem errorOf_compT_idle (hb : s.busy = false) :
    errorOf .compT s = if !s.calValid then some .notCalibrated else none :=
  errorOf_idle hb .compT

theorem errorOf_compTp_idle (hb : s.busy = false) :
    errorOf .compTp s = if !s.calValid then some .notCalibrated else none :=
  errorOf_idle hb .compTp

theorem errorOf_compP_idle (hb : s.busy = false) :
    errorOf .compP s = if !s.calValid then some .notCalibrated else if !s.tfValid then some .staleTfine else none :=
  errorOf_idle hb .compP

theorem errorOf_calCommit_idle (hb : s.busy = false) :
    errorOf .calCommit s = if !s.calValid && s.calMask != fullMask then some .calIncomplete else none :=
  errorOf_idle hb .calCommit

theorem errorOf_wrCal_idle (hb : s.busy = false) (k : Fin 24) (d : Byte) :
    errorOf (.wrCal k d) s = if s.calValid then some .calLocked else none :=
  errorOf_idle hb (.wrCal k d)

end ErrorChecks

/-- What a transaction answers when the first check that applies is the given one: its error is raised and nothing
else happens (R222, R224), or no check applies and no error is raised. -/
def AnswersCheck (i : Instr) (s : State) : Option ErrCode → Prop
  | some c => exec i s = .next (raiseError c s)
  | none => ∃ t, exec i s = .next t ∧ t.err = if i = .clrErr then .none else s.err

theorem exec_answersCheck_idle {s : State} (hb : s.busy = false) (i : Instr) : AnswersCheck i s (errorOf i s) := by
  cases i with
  | rd a => exact ⟨_, rfl, rfl⟩
  | nop => rw [errorOf_idle hb]; exact ⟨_, exec_nop_idle hb, rfl⟩
  | calClear => rw [errorOf_idle hb]; exact ⟨_, exec_calClear_idle hb, rfl⟩
  | clrErr => rw [errorOf_idle hb]; exact ⟨_, exec_clrErr_idle hb, rfl⟩
  | wrRawp j d => rw [errorOf_idle hb]; exact ⟨_, exec_wrRawp_accepted hb j d, rfl⟩
  | wrRawt j d => rw [errorOf_idle hb]; exact ⟨_, exec_wrRawt_accepted hb j d, rfl⟩
  | cmdRsv d => rw [errorOf_idle hb]; exact exec_cmdRsv_idle hb d
  | wrRo a d => rw [errorOf_idle hb]; exact exec_wrRo_idle hb a d
  | wrRsv a d => rw [errorOf_idle hb]; exact exec_wrRsv_idle hb a d
  | compT =>
    rw [errorOf_compT_idle hb]
    cases hv : s.calValid with
    | false => exact exec_compT_notCalibrated hb hv
    | true => exact ⟨_, exec_compT_accepted hb hv, rfl⟩
  | compTp =>
    rw [errorOf_compTp_idle hb]
    cases hv : s.calValid with
    | false => exact exec_compTp_notCalibrated hb hv
    | true => exact ⟨_, exec_compTp_accepted hb hv, rfl⟩
  | compP =>
    rw [errorOf_compP_idle hb]
    cases hv : s.calValid with
    | false => exact exec_compP_notCalibrated hb hv
    | true =>
      cases hf : s.tfValid with
      | false => exact exec_compP_staleTfine hb hv hf
      | true => exact ⟨_, exec_compP_accepted hb hv hf, rfl⟩
  | calCommit =>
    rw [errorOf_calCommit_idle hb]
    cases hv : s.calValid with
    | true => exact ⟨_, exec_calCommit_valid hb hv, rfl⟩
    | false =>
      by_cases hm : s.calMask = fullMask
      · rw [if_neg (by simp [hm])]
        exact ⟨_, exec_calCommit_accepted hb hv hm, rfl⟩
      · rw [if_pos (by simp [hm])]
        exact exec_calCommit_incomplete hb hv hm
  | wrCal k d =>
    rw [errorOf_wrCal_idle hb]
    cases hv : s.calValid with
    | true => exact exec_wrCal_locked hb hv k d
    | false => exact ⟨_, exec_wrCal_accepted hb hv k d, rfl⟩

/-- R224 in full: the busy check is the first of every write and no check of a read, the others are those of an idle
block. -/
theorem exec_answersCheck (i : Instr) (s : State) : AnswersCheck i s (errorOf i s) := by
  cases hb : s.busy with
  | false => exact exec_answersCheck_idle hb i
  | true =>
    cases hi : i.isWrite with
    | true =>
      rw [errorOf_busy hi hb]
      exact exec_write_busy hi hb
    | false =>
      cases i with
      | rd a => exact ⟨_, rfl, rfl⟩
      | _ => cases hi

/-- Settles O16: the two outcomes of the checks. -/
theorem firstMatchingCheckGivesTheError : Obligations.FirstMatchingCheckGivesTheError := by
  intro i s
  have h := exec_answersCheck i s
  exact ⟨fun c hc => by rwa [hc] at h, fun hc => by rwa [hc] at h⟩

/-- A transaction keeps a recorded error, unless it is an accepted CLR_ERR (R222, R223). -/
theorem exec_err_of_recorded {i : Instr} {s t : State} (he : s.err ≠ .none) (h : exec i s = .next t) :
    t.err = s.err ∨ (t.err = .none ∧ i = .clrErr ∧ s.busy = false) := by
  cases exec_effect h with
  | refused c => rw [raiseError_sticky he]; exact .inl rfl
  | errCleared hb hi => exact .inr ⟨rfl, hi, hb⟩
  | _ => exact .inl rfl

/-- The sequencer's part never writes ERR (R225). -/
theorem sequencerPart_err (s t : State) : (sequencerPart s t).err = t.err := by
  unfold sequencerPart
  split
  · exact (sequencerStep_frame t).1
  · rfl

/-- Settles O17, by what an edge can do: the host's transaction is the only writer of ERR.CODE but a reset. -/
theorem recordedErrorStaysUntilClrErrOrReset : Obligations.RecordedErrorStaysUntilClrErrOrReset := by
  intro s t h he
  rcases step_cases h with ⟨hr, rfl⟩ | ⟨hr, u, hu, rfl⟩
  · exact .inr ⟨rfl, .inl hr⟩
  · rw [sequencerPart_err]
    rcases hostPart_cases hu with ⟨-, rfl⟩ | ⟨hq, hexec⟩
    · exact .inl rfl
    · rcases exec_err_of_recorded (s := s.takePins) he hexec with hkept | ⟨hzero, hi, hb⟩
      · exact .inl hkept
      · exact .inr ⟨hzero, .inr ⟨by rw [presented_eq_some hr hq, hi], hb⟩⟩

end Sys2Proof.Machine

/-! ## Reset edges, and edges that always answer (70_reset_and_hazards.md R250, R251, R265) -/

namespace Sys2Proof.Machine

/-- A reset edge is the reset alone, whatever else the pins carry (R251). -/
theorem step_of_reset {s : State} (hr : s.pins.rst = true) : step s = .next (resetEdge s.takePins) := by
  rw [step, edge, if_pos hr]

/-- Settles O2: `resetEdge` writes the reset value to every field of the block. -/
theorem resetEdgeOverridesEverything : Obligations.ResetEdgeOverridesEverything :=
  fun _ hr => step_of_reset hr

/-- Settles O10: the host's part answers in every state, and the rest of an edge is total. -/
theorem everyEdgeGivesANextState : Obligations.EveryEdgeGivesANextState := step_answers

end Sys2Proof.Machine

/-! ## The busy window (70_reset_and_hazards.md R256 to R258, R262, R264) -/

namespace Sys2Proof.Machine

theorem SameResults.refl (s : State) : SameResults s s := ⟨rfl, rfl, rfl, rfl, rfl, rfl, rfl, rfl⟩

theorem SameOperands.refl (s : State) : SameOperands s s := ⟨rfl, rfl, rfl, rfl⟩

/-- Settles O54, by induction on the edges: each before the command's last one moves its count only. -/
theorem commandInFlightKeepsResultsUntilItsCommit : Obligations.CommandInFlightKeepsResultsUntilItsCommit := by
  intro k
  induction k with
  | zero =>
    intro s _ _ _
    exact ⟨s, rfl, rfl, rfl, .refl s, .refl s⟩
  | succ k ih =>
    intro s hb hk hr
    have hlt : 1 < s.seqCnt.toNat := by omega
    obtain ⟨e, r, hstep⟩ := step_counts hr.pins hb hlt
    have hcnt : (s.counted e r).seqCnt.toNat = s.seqCnt.toNat - 1 := toNat_pred_of_one_lt hlt
    obtain ⟨t, hrun, hop, hleft, hres, hops⟩ := ih (s.counted e r) hb (by omega) (hr.step rfl)
    exact ⟨t, (run_succ hstep).trans hrun, hop, by omega, hres.trans (counted_sameResults s e r),
      hops.trans (counted_sameOperands s e r)⟩

/-- Before its last edge a command in flight keeps BUSY = 1 (R25, R258). -/
theorem run_in_flight {s : State} {k : Nat} (hb : s.busy = true) (hk : k < s.seqCnt.toNat) (hr : s.noReset k) :
    ∃ t, run k s = .next t ∧ t.busy = true := by
  obtain ⟨t, hrun, hop, -⟩ := commandInFlightKeepsResultsUntilItsCommit k s hb hk hr
  exact ⟨t, hrun, by rw [busy_eq_decide, hop, ← busy_eq_decide, hb]⟩

/-- After its last edge BUSY = 0 (R258). -/
theorem run_to_idle {s : State} (hb : s.busy = true) (hpos : 0 < s.seqCnt.toNat) (hr : s.noReset s.seqCnt.toNat) :
    ∃ t, run s.seqCnt.toNat s = .next t ∧ t.busy = false := by
  obtain ⟨t, hrun, hop, -⟩ := commandCommitsWhatItsOperandsGave s hb hpos hr
  exact ⟨t, hrun, (busy_eq_false t).2 hop⟩

theorem State.noReset.mono {s : State} {m n : Nat} (h : s.noReset n) (hmn : m ≤ n) : s.noReset m :=
  fun p hp => h p (List.take_subset_take_left s.inputs hmn hp)

/-! ### An accepted command (R262, R264) -/

/-- `t` is `s` at the end of the edge that accepted a compensation command with a latency of `n` cycles. -/
structure Issued (s : State) (n : Nat) (t : State) : Prop where
  busy : t.busy = true
  seqCnt : t.seqCnt.toNat = n
  inputs : t.inputs = s.inputs

theorem issued_startCommand {op : SeqOp} {n : Nat} (s : State) (hop : op ≠ .idle) (hn : (BitVec.ofNat 9 n).toNat = n) :
    Issued s n (startCommand op n s) :=
  ⟨(busy_eq_true _).2 hop, hn, rfl⟩

/-- An edge that presents a transaction takes it from its pins (20_memory.md R62). -/
theorem pins_of_presented {s : State} {i : Instr} (h : s.presented = some i) :
    s.pins.rst = false ∧ s.pins.req = true ∧ decodeTW s.pins.word = i := by
  unfold State.presented at h
  split at h
  · cases h
  · next hr =>
    split at h
    · next hq => exact ⟨by simpa using hr, hq, by simpa using h⟩
    · cases h

theorem isWrite_of_isCompensation {i : Instr} (hi : isCompensation i = true) : i.isWrite = true := by
  cases i with
  | compT | compP | compTp => rfl
  | _ => cases hi

/-- No latency is 0 (00_scope.md R6). -/
theorem busyCycles_pos {i : Instr} (hi : isCompensation i = true) (s : State) : 0 < busyCycles i s := by
  obtain ⟨hT, -⟩ := s.latT.legal
  obtain ⟨hP, -⟩ := s.latP.legal
  cases i with
  | compT | compP | compTp => simp only [busyCycles]; omega
  | _ => cases hi

/-- A compensation command that no check refuses is issued with its latency, from an idle block (42_compensation.md
R180, R181, R183). -/
theorem exec_issues {s : State} {i : Instr} (hi : isCompensation i = true) (he : errorOf i s = none) :
    s.busy = false ∧ ∃ t, exec i s = .next t ∧ Issued s (busyCycles i s) t := by
  cases hb : s.busy with
  | true => simp [errorOf_busy (isWrite_of_isCompensation hi) hb] at he
  | false =>
    refine ⟨rfl, ?_⟩
    cases i with
    | compT =>
      have hv : s.calValid = true := by simpa [errorOf_compT_idle hb] using he
      exact ⟨_, exec_compT_accepted hb hv, issued_startCommand s nofun (toNat_ofNat_latency s.latT)⟩
    | compP =>
      obtain ⟨hv, hf⟩ : s.calValid = true ∧ s.tfValid = true := by
        rw [errorOf_compP_idle hb] at he
        split_ifs at he with hv hf
        exact ⟨by simpa using hv, by simpa using hf⟩
      exact ⟨_, exec_compP_accepted hb hv hf, issued_startCommand s nofun (toNat_ofNat_latency s.latP)⟩
    | compTp =>
      have hv : s.calValid = true := by simpa [errorOf_compTp_idle hb] using he
      exact ⟨_, exec_compTp_accepted hb hv, issued_startCommand s nofun (toNat_ofNat_latTp s)⟩
    | _ => cases hi

/-- The edge that presents a command no check refuses. -/
theorem step_issues {s : State} {i : Instr} (hi : isCompensation i = true) (hp : s.presented = some i)
    (he : errorOf i s = none) : ∃ t, step s = .next t ∧ Issued s.takePins (busyCycles i s) t := by
  obtain ⟨hr, hq, hword⟩ := pins_of_presented hp
  obtain ⟨hb, t, hexec, hissued⟩ := exec_issues (s := s.takePins) hi he
  refine ⟨t, ?_, hissued⟩
  rw [step_of_exec hr hq (hword ▸ hexec), sequencerPart_idle (s := s) hb]

/-- Settles O56: the first edge issues the command with its latency as the count, which the edges after it run down. -/
theorem commandIsBusyForExactlyItsLatency : Obligations.CommandIsBusyForExactlyItsLatency := by
  intro s i hi hp he hr
  obtain ⟨u, hstep, hb, hcnt, hin⟩ := step_issues hi hp he
  have hru : u.noReset (busyCycles i s) := hr.step hin
  refine ⟨fun k h1 hk => ?_, ?_⟩
  · obtain ⟨j, rfl⟩ := Nat.exists_eq_add_one.2 h1
    rw [run_succ hstep]
    exact run_in_flight hb (by omega) (hru.mono (by omega))
  · have hpos : 0 < u.seqCnt.toNat := hcnt ▸ busyCycles_pos hi s
    rw [run_succ hstep, ← hcnt]
    exact run_to_idle hb hpos (hcnt ▸ hru)

/-! ### Polling STATUS (R257; 30_encoding.md R100) -/

/-- A run takes one set of pins an edge. -/
theorem run_inputs {n : Nat} {s t : State} (h : run n s = .next t) : t.inputs = s.inputs.drop n := by
  induction n generalizing s with
  | zero => cases h; rfl
  | succ n ih =>
    obtain ⟨u, hu, hrun⟩ := run_succ_next h
    obtain ⟨-, -, hin⟩ := edgeKeepsParametersAndTakesOneSetOfPins s u hu
    rw [ih hrun, hin, List.drop_tail]

/-- The edge after a run. -/
theorem run_then_step {n : Nat} {s t u : State} (h : run n s = .next u) (hu : step u = .next t) :
    run (n + 1) s = .next t := by
  rw [run_add 1 h, run_succ hu, run_zero]

/-- The words presented are no reset. -/
theorem noReset_present (s : State) (ws : List TW) {n : Nat} (hn : n ≤ ws.length) : (s.present ws).noReset n := by
  intro p hp
  have htake : (s.present ws).inputs.take n = (ws.map Pins.ofWord).take n :=
    List.take_append_of_le_length (by simpa using hn)
  rw [htake] at hp
  obtain ⟨w, -, rfl⟩ := List.mem_map.1 (List.mem_of_mem_take hp)
  rfl

/-- The read of a poll, at the edge that takes it: `rdata` is STATUS before the edge (R63), beside the sequencer's part. -/
theorem step_statusRead {s : State} (hp : s.pins = Pins.ofWord (asmRd symSTATUS)) :
    step s = .next (sequencerPart s (driveRdata s.statusByte s.takePins)) := by
  refine step_of_exec (by rw [hp]; rfl) (by rw [hp]; rfl) ?_
  rw [hp, ofWord_word, asmRd, decodeTW_read]
  rfl

/-- Until its last read is taken, a poll presents one. -/
theorem pins_of_poll {s t : State} {k n : Nat} (hk : k < n) (h : run k (s.present (asmPoll n)) = .next t) :
    t.pins = Pins.ofWord (asmRd symSTATUS) := by
  obtain ⟨m, rfl⟩ := Nat.exists_eq_add_of_lt hk
  have hin : t.inputs = List.replicate (m + 1) (Pins.ofWord (asmRd symSTATUS)) ++ s.inputs := by
    rw [run_inputs h, State.present, asmPoll, List.map_replicate, List.drop_append_of_le_length (by simp; omega),
      List.drop_replicate]
    congr 2
    omega
  rw [State.pins, hin, List.replicate_succ, List.cons_append]

/-- Bit 0 of a poll's read is BUSY before the edge (R24), and the read leaves an idle block idle. -/
theorem run_poll_succ {s u : State} {k n : Nat} (hk : k < n) (h : run k (s.present (asmPoll n)) = .next u) :
    ∃ t, run (k + 1) (s.present (asmPoll n)) = .next t ∧ t.rdata.getLsbD 0 = u.busy ∧
      (u.busy = false → t.busy = false) := by
  obtain ⟨hbit, -⟩ := statusByte_bits u
  refine ⟨_, run_then_step h (step_statusRead (pins_of_poll hk h)), ?_, fun hb => ?_⟩
  · rw [sequencerPart_rdata, driveRdata_rdata, hbit]
  · rw [sequencerPart_idle hb]
    exact hb

/-- Settles O60: each read but the last finds the command in flight, the last finds it committed. -/
theorem pollEndsWhenTheCommandCommits : Obligations.PollEndsWhenTheCommandCommits := by
  intro s hb hpos
  have hr (k : Nat) (hk : k ≤ s.seqCnt.toNat) : (s.present (asmPoll (s.seqCnt.toNat + 1))).noReset k :=
    noReset_present s _ (by simp [asmPoll]; omega)
  refine ⟨?_, fun k h1 hk => ?_⟩
  · obtain ⟨u, hrun, hidle⟩ := run_to_idle (s := s.present (asmPoll (s.seqCnt.toNat + 1))) hb hpos (hr _ le_rfl)
    obtain ⟨t, ht, hbit, hkeep⟩ := run_poll_succ (Nat.lt_succ_self _) hrun
    exact ⟨t, ht, hbit.trans hidle, hkeep hidle⟩
  · obtain ⟨j, rfl⟩ := Nat.exists_eq_add_one.2 h1
    obtain ⟨u, hrun, hbusy⟩ := run_in_flight (s := s.present (asmPoll (s.seqCnt.toNat + 1))) hb hk (hr j (by omega))
    obtain ⟨t, ht, hbit, -⟩ := run_poll_succ (by omega) hrun
    exact ⟨t, ht, hbit.trans hbusy⟩

end Sys2Proof.Machine
